-- ==== Sys2Proof/Word.lean ====
section
/-! DEFINITION. The machine's word types: 8-bit data, 16-bit addresses (00_scope R10). -/

namespace Sys2Proof

/-- A memory byte or an 8-bit register (R10: data width 8). -/
abbrev Byte := BitVec 8

/-- A 16-bit quantity: PC, an effective address, a word operand (R10: address width 16). -/
abbrev Word := BitVec 16

/-- One slot of the PSG's output buffer: a signed integer of SAMPLE_BITS = 16 bits, two's complement (R125). -/
abbrev Sample := BitVec 16

end Sys2Proof
end

