-- ==== Sys2Proof/Machine/Bits.lean ====
section
/-! DEFINITION. Byte order, byte halves and sign extension (R12, R13, R204, R304). -/

namespace Sys2Proof

/-- `h:l`: the 16-bit quantity with high byte `h` and low byte `l` (R12, R204). -/
def wordOf (h l : Byte) : Word := h ++ l

/-- `w[7:0]` (R12). -/
def lowByte (w : Word) : Byte := w.extractLsb' 0 8

/-- `w[15:8]` (R12). -/
def highByte (w : Word) : Byte := w.extractLsb' 8 8

/-- A byte zero-extended to 16 bits (R13, R303). -/
def zext (b : Byte) : Word := b.setWidth 16

/-- `sext_8` modulo 2^16 (R13, R304). -/
def sext (b : Byte) : Word := b.signExtend 16

end Sys2Proof
end

