-- ==== Sys2Proof/Config.lean ====
section
/-! DEFINITION. What an implementation fixes: the parameters of 00_scope R10 and R11, the constants with a
value for this hardware, and the free values of the points the spec leaves open. -/

namespace Sys2Proof

/-- `STACK_LIMIT` (R10): what a push or pull past the stack page's limit does. -/
inductive StackLimit where
  | fault
  | wrap
deriving DecidableEq, Repr

/-- `DECIMAL_MODEL` (R10): the 65C02 algorithm of R862, R863, or left open. -/
inductive DecimalModel where
  | c02
  | open_
deriving DecidableEq, Repr

/-- The CPU block's parameters (R10), fixed for an instance (R106). -/
structure CpuConfig where
  /-- `EXTENDED` (R3). -/
  extended : Bool
  /-- The opcodes left out of `IMPLEMENTED` (R309, R310): the complement of that set. -/
  unimplemented : List Byte
  /-- `COST` (R115): the cycle cost of each opcode. -/
  cost : Vector Nat 256
  /-- `STACK_LIMIT` (R430, R431). -/
  stackLimit : StackLimit
  /-- `DECIMAL_MODEL` (R862, R863). -/
  decimalModel : DecimalModel
  /-- `BIT_IMM_NV` (R454). -/
  bitImmNV : Bool
deriving DecidableEq, Repr

/-- A value of `NOISE_TAP`: 1..15 (R11). -/
abbrev NoiseTap := { n : Nat // 1 ≤ n ∧ n ≤ 15 }

/-- A value of `SEED_INIT`: 16-bit, non-zero (R11). -/
abbrev SeedInit := { s : BitVec 16 // s ≠ 0x0000#16 }

/-- The PSG block's parameters (R11), fixed for an instance. -/
structure PsgConfig where
  /-- `SAMPLE_RATE`, a positive natural. -/
  sampleRate : PNat
  /-- `STEP_BIAS`. -/
  stepBias : Nat
  /-- `VOLUME_BIAS`. -/
  volumeBias : Nat
  /-- `VOLUME_TABLE`. -/
  volumeTable : Vector Nat 32
  /-- `DEFAULT_CLOCK`, a positive natural. -/
  defaultClock : PNat
  /-- `NOISE_TAP` (R911; U22: a parameter). -/
  noiseTap : NoiseTap
  /-- `SEED_INIT` (R911; U22: a parameter). -/
  seedInit : SeedInit
deriving DecidableEq, Repr

namespace Config

/-- `RESET_PC` (R10, R1100; decision D6). -/
def resetPc : Word := 0x0000#16

/-- `STACK_BASE` (R10, R433; decision D7). -/
def stackBase : Word := 0x0100#16

/-- `NOISE_TAP` of this hardware (R11, R911; decision D37). -/
def noiseTap : NoiseTap := ⟨3, by decide⟩

/-- `SEED_INIT` of this hardware (R11, R911; decision D37). -/
def seedInit : SeedInit := ⟨0x0001#16, by decide⟩

/-- `MIXER_ACTIVE_LOW` (R11, R122; decision D36). -/
def mixerActiveLow : Bool := true

/-- The largest value a signed `SAMPLE_BITS` = 16-bit slot holds (R914). -/
def sampleMax : Nat := 32767

/-! Parameters the spec names and gives no value (decisions D4, D34): opaque, entry 4. -/

/-- `COST`, OPEN (D4). -/
opaque cost : Vector Nat 256

/-- `SAMPLE_RATE`, OPEN (D34), a positive natural. -/
opaque sampleRate : PNat

/-- `STEP_BIAS`, OPEN (D34). -/
opaque stepBias : Nat

/-- `VOLUME_BIAS`, OPEN (D34). -/
opaque volumeBias : Nat

/-- `VOLUME_TABLE`, OPEN (D34). -/
opaque volumeTable : Vector Nat 32

/-- `DEFAULT_CLOCK`, OPEN (D34), a positive natural. -/
opaque defaultClock : PNat

/-! Free values: nothing constrains them. -/

/-- The byte the `n`-th read at a host-mapped I/O address returns (R203: a draw, any byte; entry 7). -/
opaque ioByte : Nat → Byte

/-- The value stored for the `n`-th mixed sum above `sampleMax` (R914: any 16-bit value; entry 10). -/
opaque overflowSample : Nat → Sample

/-- Result, carry and overflow of a decimal ADC of the accumulator, the operand and the carry under
`DECIMAL_MODEL = open` (R10; entry 9). -/
opaque openDecimalAdd : Byte → Byte → Bool → Byte × Bool × Bool

/-- As `openDecimalAdd`, for a decimal SBC (R10; entry 9). -/
opaque openDecimalSub : Byte → Byte → Bool → Byte × Bool × Bool

/-- The CPU configuration of this hardware (R10; `IMPLEMENTED` by R310). -/
def defaultCpu : CpuConfig where
  extended := true
  unimplemented := [0x5B#8, 0x7B#8]
  cost := cost
  stackLimit := .fault
  decimalModel := .c02
  bitImmNV := false

/-- The PSG configuration of this hardware (R11). -/
def defaultPsg : PsgConfig where
  sampleRate := sampleRate
  stepBias := stepBias
  volumeBias := volumeBias
  volumeTable := volumeTable
  defaultClock := defaultClock
  noiseTap := noiseTap
  seedInit := seedInit

end Config

end Sys2Proof
end

