-- ==== Sys2Proof/Syntax.lean ====
section
/-! DEFINITION. The instruction set's syntax: one constructor per row of spec/opcode_table.json (R305), its operand
bytes assembled as R302 to R304 say. `v` is an immediate, `b` a base-page address, `w` a 16-bit operand, `d` a
displacement (or the stack offset of `(d,SP),Y`). Bytes an instruction skips without reading (BRK, AUG: R207) are
no operand. The instructions with operand bytes stand first, in opcode order, then those without. -/

namespace Sys2Proof

/-- The 256 instructions of the opcode map (R305). -/
inductive Instr where
  /-- 0x01 ORA ($nn,X) (R450). -/
  | oraIndX (b : Byte)
  /-- 0x04 TSB $nn (R455). -/
  | tsbBp (b : Byte)
  /-- 0x05 ORA $nn (R450). -/
  | oraBp (b : Byte)
  /-- 0x06 ASL $nn (R500). -/
  | aslBp (b : Byte)
  /-- 0x07 RMB0 $nn (R551). -/
  | rmb0 (b : Byte)
  /-- 0x09 ORA #$nn (R450). -/
  | oraImm (v : Byte)
  /-- 0x0C TSB $nnnn (R455). -/
  | tsbAbs (w : Word)
  /-- 0x0D ORA $nnnn (R450). -/
  | oraAbs (w : Word)
  /-- 0x0E ASL $nnnn (R500). -/
  | aslAbs (w : Word)
  /-- 0x0F BBR0 $nn,label (R761). -/
  | bbr0 (b : Byte) (d : Byte)
  /-- 0x10 BPL label (R751). -/
  | bplRel (d : Byte)
  /-- 0x11 ORA ($nn),Y (R450). -/
  | oraIndY (b : Byte)
  /-- 0x12 ORA ($nn),Z (R450). -/
  | oraIndZ (b : Byte)
  /-- 0x13 BPL label (R751). -/
  | bplWord (d : Word)
  /-- 0x14 TRB $nn (R456). -/
  | trbBp (b : Byte)
  /-- 0x15 ORA $nn,X (R450). -/
  | oraBpX (b : Byte)
  /-- 0x16 ASL $nn,X (R500). -/
  | aslBpX (b : Byte)
  /-- 0x17 RMB1 $nn (R552). -/
  | rmb1 (b : Byte)
  /-- 0x19 ORA $nnnn,Y (R450). -/
  | oraAbsY (w : Word)
  /-- 0x1C TRB $nnnn (R456). -/
  | trbAbs (w : Word)
  /-- 0x1D ORA $nnnn,X (R450). -/
  | oraAbsX (w : Word)
  /-- 0x1E ASL $nnnn,X (R500). -/
  | aslAbsX (w : Word)
  /-- 0x1F BBR1 $nn,label (R762). -/
  | bbr1 (b : Byte) (d : Byte)
  /-- 0x20 JSR $nnnn (R781). -/
  | jsrAbs (w : Word)
  /-- 0x21 AND ($nn,X) (R451). -/
  | andIndX (b : Byte)
  /-- 0x22 JSR ($nnnn) (R781). -/
  | jsrInd (w : Word)
  /-- 0x23 JSR ($nnnn,X) (R781). -/
  | jsrIndX (w : Word)
  /-- 0x24 BIT $nn (R453). -/
  | bitBp (b : Byte)
  /-- 0x25 AND $nn (R451). -/
  | andBp (b : Byte)
  /-- 0x26 ROL $nn (R502). -/
  | rolBp (b : Byte)
  /-- 0x27 RMB2 $nn (R553). -/
  | rmb2 (b : Byte)
  /-- 0x29 AND #$nn (R451). -/
  | andImm (v : Byte)
  /-- 0x2C BIT $nnnn (R453). -/
  | bitAbs (w : Word)
  /-- 0x2D AND $nnnn (R451). -/
  | andAbs (w : Word)
  /-- 0x2E ROL $nnnn (R502). -/
  | rolAbs (w : Word)
  /-- 0x2F BBR2 $nn,label (R763). -/
  | bbr2 (b : Byte) (d : Byte)
  /-- 0x30 BMI label (R752). -/
  | bmiRel (d : Byte)
  /-- 0x31 AND ($nn),Y (R451). -/
  | andIndY (b : Byte)
  /-- 0x32 AND ($nn),Z (R451). -/
  | andIndZ (b : Byte)
  /-- 0x33 BMI label (R752). -/
  | bmiWord (d : Word)
  /-- 0x34 BIT $nn,X (R453). -/
  | bitBpX (b : Byte)
  /-- 0x35 AND $nn,X (R451). -/
  | andBpX (b : Byte)
  /-- 0x36 ROL $nn,X (R502). -/
  | rolBpX (b : Byte)
  /-- 0x37 RMB3 $nn (R554). -/
  | rmb3 (b : Byte)
  /-- 0x39 AND $nnnn,Y (R451). -/
  | andAbsY (w : Word)
  /-- 0x3C BIT $nnnn,X (R453). -/
  | bitAbsX (w : Word)
  /-- 0x3D AND $nnnn,X (R451). -/
  | andAbsX (w : Word)
  /-- 0x3E ROL $nnnn,X (R502). -/
  | rolAbsX (w : Word)
  /-- 0x3F BBR3 $nn,label (R764). -/
  | bbr3 (b : Byte) (d : Byte)
  /-- 0x41 EOR ($nn,X) (R452). -/
  | eorIndX (b : Byte)
  /-- 0x44 ASR $nn (R504). -/
  | asrBp (b : Byte)
  /-- 0x45 EOR $nn (R452). -/
  | eorBp (b : Byte)
  /-- 0x46 LSR $nn (R501). -/
  | lsrBp (b : Byte)
  /-- 0x47 RMB4 $nn (R555). -/
  | rmb4 (b : Byte)
  /-- 0x49 EOR #$nn (R452). -/
  | eorImm (v : Byte)
  /-- 0x4C JMP $nnnn (R780). -/
  | jmpAbs (w : Word)
  /-- 0x4D EOR $nnnn (R452). -/
  | eorAbs (w : Word)
  /-- 0x4E LSR $nnnn (R501). -/
  | lsrAbs (w : Word)
  /-- 0x4F BBR4 $nn,label (R765). -/
  | bbr4 (b : Byte) (d : Byte)
  /-- 0x50 BVC label (R753). -/
  | bvcRel (d : Byte)
  /-- 0x51 EOR ($nn),Y (R452). -/
  | eorIndY (b : Byte)
  /-- 0x52 EOR ($nn),Z (R452). -/
  | eorIndZ (b : Byte)
  /-- 0x53 BVC label (R753). -/
  | bvcWord (d : Word)
  /-- 0x54 ASR $nn,X (R504). -/
  | asrBpX (b : Byte)
  /-- 0x55 EOR $nn,X (R452). -/
  | eorBpX (b : Byte)
  /-- 0x56 LSR $nn,X (R501). -/
  | lsrBpX (b : Byte)
  /-- 0x57 RMB5 $nn (R556). -/
  | rmb5 (b : Byte)
  /-- 0x59 EOR $nnnn,Y (R452). -/
  | eorAbsY (w : Word)
  /-- 0x5D EOR $nnnn,X (R452). -/
  | eorAbsX (w : Word)
  /-- 0x5E LSR $nnnn,X (R501). -/
  | lsrAbsX (w : Word)
  /-- 0x5F BBR5 $nn,label (R766). -/
  | bbr5 (b : Byte) (d : Byte)
  /-- 0x61 ADC ($nn,X) (R860). -/
  | adcIndX (b : Byte)
  /-- 0x62 RTN #$nn (R784). -/
  | rtn (v : Byte)
  /-- 0x63 BSR label (R782). -/
  | bsr (d : Word)
  /-- 0x64 STZ $nn (R857). -/
  | stzBp (b : Byte)
  /-- 0x65 ADC $nn (R860). -/
  | adcBp (b : Byte)
  /-- 0x66 ROR $nn (R503). -/
  | rorBp (b : Byte)
  /-- 0x67 RMB6 $nn (R557). -/
  | rmb6 (b : Byte)
  /-- 0x69 ADC #$nn (R860). -/
  | adcImm (v : Byte)
  /-- 0x6C JMP ($nnnn) (R780). -/
  | jmpInd (w : Word)
  /-- 0x6D ADC $nnnn (R860). -/
  | adcAbs (w : Word)
  /-- 0x6E ROR $nnnn (R503). -/
  | rorAbs (w : Word)
  /-- 0x6F BBR6 $nn,label (R767). -/
  | bbr6 (b : Byte) (d : Byte)
  /-- 0x70 BVS label (R754). -/
  | bvsRel (d : Byte)
  /-- 0x71 ADC ($nn),Y (R860). -/
  | adcIndY (b : Byte)
  /-- 0x72 ADC ($nn),Z (R860). -/
  | adcIndZ (b : Byte)
  /-- 0x73 BVS label (R754). -/
  | bvsWord (d : Word)
  /-- 0x74 STZ $nn,X (R857). -/
  | stzBpX (b : Byte)
  /-- 0x75 ADC $nn,X (R860). -/
  | adcBpX (b : Byte)
  /-- 0x76 ROR $nn,X (R503). -/
  | rorBpX (b : Byte)
  /-- 0x77 RMB7 $nn (R558). -/
  | rmb7 (b : Byte)
  /-- 0x79 ADC $nnnn,Y (R860). -/
  | adcAbsY (w : Word)
  /-- 0x7C JMP ($nnnn,X) (R780). -/
  | jmpIndX (w : Word)
  /-- 0x7D ADC $nnnn,X (R860). -/
  | adcAbsX (w : Word)
  /-- 0x7E ROR $nnnn,X (R503). -/
  | rorAbsX (w : Word)
  /-- 0x7F BBR7 $nn,label (R768). -/
  | bbr7 (b : Byte) (d : Byte)
  /-- 0x80 BRU label (R759). -/
  | bruRel (d : Byte)
  /-- 0x81 STA ($nn,X) (R854). -/
  | staIndX (b : Byte)
  /-- 0x82 STA ($nn,SP),Y (R854). -/
  | staSpY (d : Byte)
  /-- 0x83 BRU label (R759). -/
  | bruWord (d : Word)
  /-- 0x84 STY $nn (R856). -/
  | styBp (b : Byte)
  /-- 0x85 STA $nn (R854). -/
  | staBp (b : Byte)
  /-- 0x86 STX $nn (R855). -/
  | stxBp (b : Byte)
  /-- 0x87 SMB0 $nn (R561). -/
  | smb0 (b : Byte)
  /-- 0x89 BIT #$nn (R454). -/
  | bitImm (v : Byte)
  /-- 0x8B STY $nnnn,X (R856). -/
  | styAbsX (w : Word)
  /-- 0x8C STY $nnnn (R856). -/
  | styAbs (w : Word)
  /-- 0x8D STA $nnnn (R854). -/
  | staAbs (w : Word)
  /-- 0x8E STX $nnnn (R855). -/
  | stxAbs (w : Word)
  /-- 0x8F BBS0 $nn,label (R771). -/
  | bbs0 (b : Byte) (d : Byte)
  /-- 0x90 BCC label (R755). -/
  | bccRel (d : Byte)
  /-- 0x91 STA ($nn),Y (R854). -/
  | staIndY (b : Byte)
  /-- 0x92 STA ($nn),Z (R854). -/
  | staIndZ (b : Byte)
  /-- 0x93 BCC label (R755). -/
  | bccWord (d : Word)
  /-- 0x94 STY $nn,X (R856). -/
  | styBpX (b : Byte)
  /-- 0x95 STA $nn,X (R854). -/
  | staBpX (b : Byte)
  /-- 0x96 STX $nn,Y (R855). -/
  | stxBpY (b : Byte)
  /-- 0x97 SMB1 $nn (R562). -/
  | smb1 (b : Byte)
  /-- 0x99 STA $nnnn,Y (R854). -/
  | staAbsY (w : Word)
  /-- 0x9B STX $nnnn,Y (R855). -/
  | stxAbsY (w : Word)
  /-- 0x9C STZ $nnnn (R857). -/
  | stzAbs (w : Word)
  /-- 0x9D STA $nnnn,X (R854). -/
  | staAbsX (w : Word)
  /-- 0x9E STZ $nnnn,X (R857). -/
  | stzAbsX (w : Word)
  /-- 0x9F BBS1 $nn,label (R772). -/
  | bbs1 (b : Byte) (d : Byte)
  /-- 0xA0 LDY #$nn (R852). -/
  | ldyImm (v : Byte)
  /-- 0xA1 LDA ($nn,X) (R850). -/
  | ldaIndX (b : Byte)
  /-- 0xA2 LDX #$nn (R851). -/
  | ldxImm (v : Byte)
  /-- 0xA3 LDZ #$nn (R853). -/
  | ldzImm (v : Byte)
  /-- 0xA4 LDY $nn (R852). -/
  | ldyBp (b : Byte)
  /-- 0xA5 LDA $nn (R850). -/
  | ldaBp (b : Byte)
  /-- 0xA6 LDX $nn (R851). -/
  | ldxBp (b : Byte)
  /-- 0xA7 SMB2 $nn (R563). -/
  | smb2 (b : Byte)
  /-- 0xA9 LDA #$nn (R850). -/
  | ldaImm (v : Byte)
  /-- 0xAB LDZ $nnnn (R853). -/
  | ldzAbs (w : Word)
  /-- 0xAC LDY $nnnn (R852). -/
  | ldyAbs (w : Word)
  /-- 0xAD LDA $nnnn (R850). -/
  | ldaAbs (w : Word)
  /-- 0xAE LDX $nnnn (R851). -/
  | ldxAbs (w : Word)
  /-- 0xAF BBS2 $nn,label (R773). -/
  | bbs2 (b : Byte) (d : Byte)
  /-- 0xB0 BCS label (R756). -/
  | bcsRel (d : Byte)
  /-- 0xB1 LDA ($nn),Y (R850). -/
  | ldaIndY (b : Byte)
  /-- 0xB2 LDA ($nn),Z (R850). -/
  | ldaIndZ (b : Byte)
  /-- 0xB3 BCS label (R756). -/
  | bcsWord (d : Word)
  /-- 0xB4 LDY $nn,X (R852). -/
  | ldyBpX (b : Byte)
  /-- 0xB5 LDA $nn,X (R850). -/
  | ldaBpX (b : Byte)
  /-- 0xB6 LDX $nn,Y (R851). -/
  | ldxBpY (b : Byte)
  /-- 0xB7 SMB3 $nn (R564). -/
  | smb3 (b : Byte)
  /-- 0xB9 LDA $nnnn,Y (R850). -/
  | ldaAbsY (w : Word)
  /-- 0xBB LDZ $nnnn,X (R853). -/
  | ldzAbsX (w : Word)
  /-- 0xBC LDY $nnnn,X (R852). -/
  | ldyAbsX (w : Word)
  /-- 0xBD LDA $nnnn,X (R850). -/
  | ldaAbsX (w : Word)
  /-- 0xBE LDX $nnnn,Y (R851). -/
  | ldxAbsY (w : Word)
  /-- 0xBF BBS3 $nn,label (R774). -/
  | bbs3 (b : Byte) (d : Byte)
  /-- 0xC0 CPY #$nn (R867). -/
  | cpyImm (v : Byte)
  /-- 0xC1 CMP ($nn,X) (R865). -/
  | cmpIndX (b : Byte)
  /-- 0xC2 CPZ #$nn (R868). -/
  | cpzImm (v : Byte)
  /-- 0xC3 DEW $nn (R709). -/
  | dew (b : Byte)
  /-- 0xC4 CPY $nn (R867). -/
  | cpyBp (b : Byte)
  /-- 0xC5 CMP $nn (R865). -/
  | cmpBp (b : Byte)
  /-- 0xC6 DEC $nn (R704). -/
  | decBp (b : Byte)
  /-- 0xC7 SMB4 $nn (R565). -/
  | smb4 (b : Byte)
  /-- 0xC9 CMP #$nn (R865). -/
  | cmpImm (v : Byte)
  /-- 0xCB ASW $nnnn (R505). -/
  | asw (w : Word)
  /-- 0xCC CPY $nnnn (R867). -/
  | cpyAbs (w : Word)
  /-- 0xCD CMP $nnnn (R865). -/
  | cmpAbs (w : Word)
  /-- 0xCE DEC $nnnn (R704). -/
  | decAbs (w : Word)
  /-- 0xCF BBS4 $nn,label (R775). -/
  | bbs4 (b : Byte) (d : Byte)
  /-- 0xD0 BNE label (R757). -/
  | bneRel (d : Byte)
  /-- 0xD1 CMP ($nn),Y (R865). -/
  | cmpIndY (b : Byte)
  /-- 0xD2 CMP ($nn),Z (R865). -/
  | cmpIndZ (b : Byte)
  /-- 0xD3 BNE label (R757). -/
  | bneWord (d : Word)
  /-- 0xD4 CPZ $nn (R868). -/
  | cpzBp (b : Byte)
  /-- 0xD5 CMP $nn,X (R865). -/
  | cmpBpX (b : Byte)
  /-- 0xD6 DEC $nn,X (R704). -/
  | decBpX (b : Byte)
  /-- 0xD7 SMB5 $nn (R566). -/
  | smb5 (b : Byte)
  /-- 0xD9 CMP $nnnn,Y (R865). -/
  | cmpAbsY (w : Word)
  /-- 0xDC CPZ $nnnn (R868). -/
  | cpzAbs (w : Word)
  /-- 0xDD CMP $nnnn,X (R865). -/
  | cmpAbsX (w : Word)
  /-- 0xDE DEC $nnnn,X (R704). -/
  | decAbsX (w : Word)
  /-- 0xDF BBS5 $nn,label (R776). -/
  | bbs5 (b : Byte) (d : Byte)
  /-- 0xE0 CPX #$nn (R866). -/
  | cpxImm (v : Byte)
  /-- 0xE1 SBC ($nn,X) (R861). -/
  | sbcIndX (b : Byte)
  /-- 0xE2 LDA ($nn,SP),Y (R850). -/
  | ldaSpY (d : Byte)
  /-- 0xE3 INW $nn (R708). -/
  | inw (b : Byte)
  /-- 0xE4 CPX $nn (R866). -/
  | cpxBp (b : Byte)
  /-- 0xE5 SBC $nn (R861). -/
  | sbcBp (b : Byte)
  /-- 0xE6 INC $nn (R700). -/
  | incBp (b : Byte)
  /-- 0xE7 SMB6 $nn (R567). -/
  | smb6 (b : Byte)
  /-- 0xE9 SBC #$nn (R861). -/
  | sbcImm (v : Byte)
  /-- 0xEB ROW $nnnn (R506). -/
  | row (w : Word)
  /-- 0xEC CPX $nnnn (R866). -/
  | cpxAbs (w : Word)
  /-- 0xED SBC $nnnn (R861). -/
  | sbcAbs (w : Word)
  /-- 0xEE INC $nnnn (R700). -/
  | incAbs (w : Word)
  /-- 0xEF BBS6 $nn,label (R777). -/
  | bbs6 (b : Byte) (d : Byte)
  /-- 0xF0 BEQ label (R758). -/
  | beqRel (d : Byte)
  /-- 0xF1 SBC ($nn),Y (R861). -/
  | sbcIndY (b : Byte)
  /-- 0xF2 SBC ($nn),Z (R861). -/
  | sbcIndZ (b : Byte)
  /-- 0xF3 BEQ label (R758). -/
  | beqWord (d : Word)
  /-- 0xF4 PHW #$nnnn (R605). -/
  | phwImm (w : Word)
  /-- 0xF5 SBC $nn,X (R861). -/
  | sbcBpX (b : Byte)
  /-- 0xF6 INC $nn,X (R700). -/
  | incBpX (b : Byte)
  /-- 0xF7 SMB7 $nn (R568). -/
  | smb7 (b : Byte)
  /-- 0xF9 SBC $nnnn,Y (R861). -/
  | sbcAbsY (w : Word)
  /-- 0xFC PHW $nnnn (R606). -/
  | phwAbs (w : Word)
  /-- 0xFD SBC $nnnn,X (R861). -/
  | sbcAbsX (w : Word)
  /-- 0xFE INC $nnnn,X (R700). -/
  | incAbsX (w : Word)
  /-- 0xFF BBS7 $nn,label (R778). -/
  | bbs7 (b : Byte) (d : Byte)
  /-- 0x00 BRK (R810). -/
  | brk
  /-- 0x02 CLE (R807). -/
  | cle
  /-- 0x03 SEE (R808). -/
  | see
  /-- 0x08 PHP (R601). -/
  | php
  /-- 0x0A ASL A (R500). -/
  | aslA
  /-- 0x0B TSY (R650). -/
  | tsy
  /-- 0x18 CLC (R800). -/
  | clc
  /-- 0x1A INC A (R700). -/
  | incA
  /-- 0x1B INZ (R703). -/
  | inz
  /-- 0x28 PLP (R608). -/
  | plp
  /-- 0x2A ROL A (R502). -/
  | rolA
  /-- 0x2B TYS (R651). -/
  | tys
  /-- 0x38 SEC (R801). -/
  | sec
  /-- 0x3A DEC A (R704). -/
  | decA
  /-- 0x3B DEZ (R707). -/
  | dez
  /-- 0x40 RTI (R785). -/
  | rti
  /-- 0x42 NEG A (R869). -/
  | neg
  /-- 0x43 ASR A (R504). -/
  | asrA
  /-- 0x48 PHA (R600). -/
  | pha
  /-- 0x4A LSR A (R501). -/
  | lsrA
  /-- 0x4B TAZ (R656). -/
  | taz
  /-- 0x58 CLI (R802). -/
  | cli
  /-- 0x5A PHY (R603). -/
  | phy
  /-- 0x5B TAB (R660). -/
  | tab
  /-- 0x5C AUG (R812). -/
  | aug
  /-- 0x60 RTS (R783). -/
  | rts
  /-- 0x68 PLA (R607). -/
  | pla
  /-- 0x6A ROR A (R503). -/
  | rorA
  /-- 0x6B TZA (R659). -/
  | tza
  /-- 0x78 SEI (R803). -/
  | sei
  /-- 0x7A PLY (R610). -/
  | ply
  /-- 0x7B TBA (R661). -/
  | tba
  /-- 0x88 DEY (R706). -/
  | dey
  /-- 0x8A TXA (R657). -/
  | txa
  /-- 0x98 TYA (R658). -/
  | tya
  /-- 0x9A TXS (R653). -/
  | txs
  /-- 0xA8 TAY (R655). -/
  | tay
  /-- 0xAA TAX (R654). -/
  | tax
  /-- 0xB8 CLV (R806). -/
  | clv
  /-- 0xBA TSX (R652). -/
  | tsx
  /-- 0xC8 INY (R702). -/
  | iny
  /-- 0xCA DEX (R705). -/
  | dex
  /-- 0xD8 CLD (R804). -/
  | cld
  /-- 0xDA PHX (R602). -/
  | phx
  /-- 0xDB PHZ (R604). -/
  | phz
  /-- 0xE8 INX (R701). -/
  | inx
  /-- 0xEA NOP (R811). -/
  | nop
  /-- 0xF8 SED (R805). -/
  | sed
  /-- 0xFA PLX (R609). -/
  | plx
  /-- 0xFB PLZ (R611). -/
  | plz
deriving DecidableEq, Repr

end Sys2Proof
end

