-- ==== Sys2Proof/Decode.lean ====
section
/-! DEFINITION. The opcode map, the decoder and the encoder (30_encoding). -/

namespace Sys2Proof

/-- One entry of the opcode map: the operand bytes an opcode takes (R301) and the instruction they make. -/
inductive Row where
  /-- Formats `imp`, `acc`: no operand byte. -/
  | bare (i : Instr)
  /-- One operand byte. -/
  | byte (mk : Byte → Instr)
  /-- Two operand bytes, low byte first, read as one 16-bit operand. -/
  | word (mk : Word → Instr)
  /-- Format `bprel`: a base-page byte, then a displacement byte. -/
  | bytes (mk : Byte → Byte → Instr)
  /-- Formats `brk`, `aug`: `n` operand bytes that are skipped and not read. -/
  | skip (n : Nat) (i : Instr)

/-- Row 0x of the opcode map (R305). -/
def mapRow0 : List Row :=
  [.skip 1 .brk, .byte .oraIndX, .bare .cle, .bare .see,
   .byte .tsbBp, .byte .oraBp, .byte .aslBp, .byte .rmb0,
   .bare .php, .byte .oraImm, .bare .aslA, .bare .tsy,
   .word .tsbAbs, .word .oraAbs, .word .aslAbs, .bytes .bbr0]

/-- Row 1x of the opcode map (R305). -/
def mapRow1 : List Row :=
  [.byte .bplRel, .byte .oraIndY, .byte .oraIndZ, .word .bplWord,
   .byte .trbBp, .byte .oraBpX, .byte .aslBpX, .byte .rmb1,
   .bare .clc, .word .oraAbsY, .bare .incA, .bare .inz,
   .word .trbAbs, .word .oraAbsX, .word .aslAbsX, .bytes .bbr1]

/-- Row 2x of the opcode map (R305). -/
def mapRow2 : List Row :=
  [.word .jsrAbs, .byte .andIndX, .word .jsrInd, .word .jsrIndX,
   .byte .bitBp, .byte .andBp, .byte .rolBp, .byte .rmb2,
   .bare .plp, .byte .andImm, .bare .rolA, .bare .tys,
   .word .bitAbs, .word .andAbs, .word .rolAbs, .bytes .bbr2]

/-- Row 3x of the opcode map (R305). -/
def mapRow3 : List Row :=
  [.byte .bmiRel, .byte .andIndY, .byte .andIndZ, .word .bmiWord,
   .byte .bitBpX, .byte .andBpX, .byte .rolBpX, .byte .rmb3,
   .bare .sec, .word .andAbsY, .bare .decA, .bare .dez,
   .word .bitAbsX, .word .andAbsX, .word .rolAbsX, .bytes .bbr3]

/-- Row 4x of the opcode map (R305). -/
def mapRow4 : List Row :=
  [.bare .rti, .byte .eorIndX, .bare .neg, .bare .asrA,
   .byte .asrBp, .byte .eorBp, .byte .lsrBp, .byte .rmb4,
   .bare .pha, .byte .eorImm, .bare .lsrA, .bare .taz,
   .word .jmpAbs, .word .eorAbs, .word .lsrAbs, .bytes .bbr4]

/-- Row 5x of the opcode map (R305). -/
def mapRow5 : List Row :=
  [.byte .bvcRel, .byte .eorIndY, .byte .eorIndZ, .word .bvcWord,
   .byte .asrBpX, .byte .eorBpX, .byte .lsrBpX, .byte .rmb5,
   .bare .cli, .word .eorAbsY, .bare .phy, .bare .tab,
   .skip 3 .aug, .word .eorAbsX, .word .lsrAbsX, .bytes .bbr5]

/-- Row 6x of the opcode map (R305). -/
def mapRow6 : List Row :=
  [.bare .rts, .byte .adcIndX, .byte .rtn, .word .bsr,
   .byte .stzBp, .byte .adcBp, .byte .rorBp, .byte .rmb6,
   .bare .pla, .byte .adcImm, .bare .rorA, .bare .tza,
   .word .jmpInd, .word .adcAbs, .word .rorAbs, .bytes .bbr6]

/-- Row 7x of the opcode map (R305). -/
def mapRow7 : List Row :=
  [.byte .bvsRel, .byte .adcIndY, .byte .adcIndZ, .word .bvsWord,
   .byte .stzBpX, .byte .adcBpX, .byte .rorBpX, .byte .rmb7,
   .bare .sei, .word .adcAbsY, .bare .ply, .bare .tba,
   .word .jmpIndX, .word .adcAbsX, .word .rorAbsX, .bytes .bbr7]

/-- Row 8x of the opcode map (R305). -/
def mapRow8 : List Row :=
  [.byte .bruRel, .byte .staIndX, .byte .staSpY, .word .bruWord,
   .byte .styBp, .byte .staBp, .byte .stxBp, .byte .smb0,
   .bare .dey, .byte .bitImm, .bare .txa, .word .styAbsX,
   .word .styAbs, .word .staAbs, .word .stxAbs, .bytes .bbs0]

/-- Row 9x of the opcode map (R305). -/
def mapRow9 : List Row :=
  [.byte .bccRel, .byte .staIndY, .byte .staIndZ, .word .bccWord,
   .byte .styBpX, .byte .staBpX, .byte .stxBpY, .byte .smb1,
   .bare .tya, .word .staAbsY, .bare .txs, .word .stxAbsY,
   .word .stzAbs, .word .staAbsX, .word .stzAbsX, .bytes .bbs1]

/-- Row Ax of the opcode map (R305). -/
def mapRowA : List Row :=
  [.byte .ldyImm, .byte .ldaIndX, .byte .ldxImm, .byte .ldzImm,
   .byte .ldyBp, .byte .ldaBp, .byte .ldxBp, .byte .smb2,
   .bare .tay, .byte .ldaImm, .bare .tax, .word .ldzAbs,
   .word .ldyAbs, .word .ldaAbs, .word .ldxAbs, .bytes .bbs2]

/-- Row Bx of the opcode map (R305). -/
def mapRowB : List Row :=
  [.byte .bcsRel, .byte .ldaIndY, .byte .ldaIndZ, .word .bcsWord,
   .byte .ldyBpX, .byte .ldaBpX, .byte .ldxBpY, .byte .smb3,
   .bare .clv, .word .ldaAbsY, .bare .tsx, .word .ldzAbsX,
   .word .ldyAbsX, .word .ldaAbsX, .word .ldxAbsY, .bytes .bbs3]

/-- Row Cx of the opcode map (R305). -/
def mapRowC : List Row :=
  [.byte .cpyImm, .byte .cmpIndX, .byte .cpzImm, .byte .dew,
   .byte .cpyBp, .byte .cmpBp, .byte .decBp, .byte .smb4,
   .bare .iny, .byte .cmpImm, .bare .dex, .word .asw,
   .word .cpyAbs, .word .cmpAbs, .word .decAbs, .bytes .bbs4]

/-- Row Dx of the opcode map (R305). -/
def mapRowD : List Row :=
  [.byte .bneRel, .byte .cmpIndY, .byte .cmpIndZ, .word .bneWord,
   .byte .cpzBp, .byte .cmpBpX, .byte .decBpX, .byte .smb5,
   .bare .cld, .word .cmpAbsY, .bare .phx, .bare .phz,
   .word .cpzAbs, .word .cmpAbsX, .word .decAbsX, .bytes .bbs5]

/-- Row Ex of the opcode map (R305). -/
def mapRowE : List Row :=
  [.byte .cpxImm, .byte .sbcIndX, .byte .ldaSpY, .byte .inw,
   .byte .cpxBp, .byte .sbcBp, .byte .incBp, .byte .smb6,
   .bare .inx, .byte .sbcImm, .bare .nop, .word .row,
   .word .cpxAbs, .word .sbcAbs, .word .incAbs, .bytes .bbs6]

/-- Row Fx of the opcode map (R305). -/
def mapRowF : List Row :=
  [.byte .beqRel, .byte .sbcIndY, .byte .sbcIndZ, .word .beqWord,
   .word .phwImm, .byte .sbcBpX, .byte .incBpX, .byte .smb7,
   .bare .sed, .word .sbcAbsY, .bare .plx, .bare .plz,
   .word .phwAbs, .word .sbcAbsX, .word .incAbsX, .bytes .bbs7]

/-- The opcode map, high nibble by high nibble (R305). -/
def opcodeMap : List (List Row) :=
  [mapRow0, mapRow1, mapRow2, mapRow3, mapRow4, mapRow5, mapRow6, mapRow7,
   mapRow8, mapRow9, mapRowA, mapRowB, mapRowC, mapRowD, mapRowE, mapRowF]

/-- For each high nibble, the low nibbles of the base 6502's opcodes (R312). -/
def baseMap : List (List Nat) :=
  [[0x0, 0x1, 0x5, 0x6, 0x8, 0x9, 0xA, 0xD, 0xE],
   [0x0, 0x1, 0x5, 0x6, 0x8, 0x9, 0xD, 0xE],
   [0x0, 0x1, 0x4, 0x5, 0x6, 0x8, 0x9, 0xA, 0xC, 0xD, 0xE],
   [0x0, 0x1, 0x5, 0x6, 0x8, 0x9, 0xD, 0xE],
   [0x0, 0x1, 0x5, 0x6, 0x8, 0x9, 0xA, 0xC, 0xD, 0xE],
   [0x0, 0x1, 0x5, 0x6, 0x8, 0x9, 0xD, 0xE],
   [0x0, 0x1, 0x5, 0x6, 0x8, 0x9, 0xA, 0xC, 0xD, 0xE],
   [0x0, 0x1, 0x5, 0x6, 0x8, 0x9, 0xD, 0xE],
   [0x1, 0x4, 0x5, 0x6, 0x8, 0xA, 0xC, 0xD, 0xE],
   [0x0, 0x1, 0x4, 0x5, 0x6, 0x8, 0x9, 0xA, 0xD],
   [0x0, 0x1, 0x2, 0x4, 0x5, 0x6, 0x8, 0x9, 0xA, 0xC, 0xD, 0xE],
   [0x0, 0x1, 0x4, 0x5, 0x6, 0x8, 0x9, 0xA, 0xC, 0xD, 0xE],
   [0x0, 0x1, 0x4, 0x5, 0x6, 0x8, 0x9, 0xA, 0xC, 0xD, 0xE],
   [0x0, 0x1, 0x5, 0x6, 0x8, 0x9, 0xD, 0xE],
   [0x0, 0x1, 0x4, 0x5, 0x6, 0x8, 0x9, 0xA, 0xC, 0xD, 0xE],
   [0x0, 0x1, 0x5, 0x6, 0x8, 0x9, 0xD, 0xE]]

/-- The opcode map's entry for an opcode byte: "the table is indexed by the whole byte" (R300, R313). -/
def opcodeRow (op : Byte) : Row :=
  (opcodeMap.getD (op.toNat / 16) []).getD (op.toNat % 16) (.bare .nop)

/-- How many operand bytes of an entry a step reads (R207, R407): skipped bytes are not read. -/
def Row.bytesRead : Row → Nat
  | .bare _ => 0
  | .byte _ => 1
  | .word _ => 2
  | .bytes _ => 2
  | .skip _ _ => 0

/-- The length of an entry's instruction, opcode byte included (R307). -/
def Row.length : Row → Nat
  | .bare _ => 1
  | .byte _ => 2
  | .word _ => 3
  | .bytes _ => 3
  | .skip n _ => n + 1

/-- The instruction an entry makes of the first and second operand bytes (R302 to R304); a byte the entry does not
have is not looked at. -/
def Row.build (r : Row) (b1 b2 : Byte) : Instr :=
  match r with
  | .bare i => i
  | .byte mk => mk b1
  | .word mk => mk (wordOf b2 b1)
  | .bytes mk => mk b1 b2
  | .skip _ i => i

/-- `LEN(op)`: the instruction length, read from the opcode byte alone (R307). -/
def opcodeLength (op : Byte) : Nat := (opcodeRow op).length

/-- Whether an opcode is one of the 151 of the base 6502 set (R312). -/
def base6502 (op : Byte) : Bool :=
  (baseMap.getD (op.toNat / 16) []).contains (op.toNat % 16)

/-- Whether an opcode is in `IMPLEMENTED` (R309, R310): not left out of the set and, in the minimal variant, one of
the base opcodes (R312). -/
def CpuConfig.implements (cfg : CpuConfig) (op : Byte) : Bool :=
  !cfg.unimplemented.contains op && (cfg.extended || base6502 op)

/-- Why a list of bytes holds no whole instruction. Every opcode byte is an instruction (R308), so nothing else can
go wrong. -/
inductive DecodeRejection where
  /-- There is no opcode byte. -/
  | noOpcode
  /-- The bytes end before the operand bytes of this opcode do. -/
  | truncated (opcode : Byte)
deriving DecidableEq, Repr

/-- The first instruction of a list of bytes, and the bytes after it (R313). -/
def decode : List Byte → Except DecodeRejection (Instr × List Byte)
  | [] => .error .noOpcode
  | op :: rest =>
    let row := opcodeRow op
    if rest.length + 1 < row.length then .error (.truncated op)
    else .ok (row.build (rest.getD 0 0#8) (rest.getD 1 0#8), rest.drop (row.length - 1))

/-- The bytes of an instruction, opcode first (R301, R305). A skipped byte is written 0 (entry 16). -/
def encode : Instr → List Byte
  | .brk => [0x00#8, 0#8]
  | .oraIndX b => [0x01#8, b]
  | .cle => [0x02#8]
  | .see => [0x03#8]
  | .tsbBp b => [0x04#8, b]
  | .oraBp b => [0x05#8, b]
  | .aslBp b => [0x06#8, b]
  | .rmb0 b => [0x07#8, b]
  | .php => [0x08#8]
  | .oraImm v => [0x09#8, v]
  | .aslA => [0x0A#8]
  | .tsy => [0x0B#8]
  | .tsbAbs w => [0x0C#8, lowByte w, highByte w]
  | .oraAbs w => [0x0D#8, lowByte w, highByte w]
  | .aslAbs w => [0x0E#8, lowByte w, highByte w]
  | .bbr0 b d => [0x0F#8, b, d]
  | .bplRel d => [0x10#8, d]
  | .oraIndY b => [0x11#8, b]
  | .oraIndZ b => [0x12#8, b]
  | .bplWord d => [0x13#8, lowByte d, highByte d]
  | .trbBp b => [0x14#8, b]
  | .oraBpX b => [0x15#8, b]
  | .aslBpX b => [0x16#8, b]
  | .rmb1 b => [0x17#8, b]
  | .clc => [0x18#8]
  | .oraAbsY w => [0x19#8, lowByte w, highByte w]
  | .incA => [0x1A#8]
  | .inz => [0x1B#8]
  | .trbAbs w => [0x1C#8, lowByte w, highByte w]
  | .oraAbsX w => [0x1D#8, lowByte w, highByte w]
  | .aslAbsX w => [0x1E#8, lowByte w, highByte w]
  | .bbr1 b d => [0x1F#8, b, d]
  | .jsrAbs w => [0x20#8, lowByte w, highByte w]
  | .andIndX b => [0x21#8, b]
  | .jsrInd w => [0x22#8, lowByte w, highByte w]
  | .jsrIndX w => [0x23#8, lowByte w, highByte w]
  | .bitBp b => [0x24#8, b]
  | .andBp b => [0x25#8, b]
  | .rolBp b => [0x26#8, b]
  | .rmb2 b => [0x27#8, b]
  | .plp => [0x28#8]
  | .andImm v => [0x29#8, v]
  | .rolA => [0x2A#8]
  | .tys => [0x2B#8]
  | .bitAbs w => [0x2C#8, lowByte w, highByte w]
  | .andAbs w => [0x2D#8, lowByte w, highByte w]
  | .rolAbs w => [0x2E#8, lowByte w, highByte w]
  | .bbr2 b d => [0x2F#8, b, d]
  | .bmiRel d => [0x30#8, d]
  | .andIndY b => [0x31#8, b]
  | .andIndZ b => [0x32#8, b]
  | .bmiWord d => [0x33#8, lowByte d, highByte d]
  | .bitBpX b => [0x34#8, b]
  | .andBpX b => [0x35#8, b]
  | .rolBpX b => [0x36#8, b]
  | .rmb3 b => [0x37#8, b]
  | .sec => [0x38#8]
  | .andAbsY w => [0x39#8, lowByte w, highByte w]
  | .decA => [0x3A#8]
  | .dez => [0x3B#8]
  | .bitAbsX w => [0x3C#8, lowByte w, highByte w]
  | .andAbsX w => [0x3D#8, lowByte w, highByte w]
  | .rolAbsX w => [0x3E#8, lowByte w, highByte w]
  | .bbr3 b d => [0x3F#8, b, d]
  | .rti => [0x40#8]
  | .eorIndX b => [0x41#8, b]
  | .neg => [0x42#8]
  | .asrA => [0x43#8]
  | .asrBp b => [0x44#8, b]
  | .eorBp b => [0x45#8, b]
  | .lsrBp b => [0x46#8, b]
  | .rmb4 b => [0x47#8, b]
  | .pha => [0x48#8]
  | .eorImm v => [0x49#8, v]
  | .lsrA => [0x4A#8]
  | .taz => [0x4B#8]
  | .jmpAbs w => [0x4C#8, lowByte w, highByte w]
  | .eorAbs w => [0x4D#8, lowByte w, highByte w]
  | .lsrAbs w => [0x4E#8, lowByte w, highByte w]
  | .bbr4 b d => [0x4F#8, b, d]
  | .bvcRel d => [0x50#8, d]
  | .eorIndY b => [0x51#8, b]
  | .eorIndZ b => [0x52#8, b]
  | .bvcWord d => [0x53#8, lowByte d, highByte d]
  | .asrBpX b => [0x54#8, b]
  | .eorBpX b => [0x55#8, b]
  | .lsrBpX b => [0x56#8, b]
  | .rmb5 b => [0x57#8, b]
  | .cli => [0x58#8]
  | .eorAbsY w => [0x59#8, lowByte w, highByte w]
  | .phy => [0x5A#8]
  | .tab => [0x5B#8]
  | .aug => [0x5C#8, 0#8, 0#8, 0#8]
  | .eorAbsX w => [0x5D#8, lowByte w, highByte w]
  | .lsrAbsX w => [0x5E#8, lowByte w, highByte w]
  | .bbr5 b d => [0x5F#8, b, d]
  | .rts => [0x60#8]
  | .adcIndX b => [0x61#8, b]
  | .rtn v => [0x62#8, v]
  | .bsr d => [0x63#8, lowByte d, highByte d]
  | .stzBp b => [0x64#8, b]
  | .adcBp b => [0x65#8, b]
  | .rorBp b => [0x66#8, b]
  | .rmb6 b => [0x67#8, b]
  | .pla => [0x68#8]
  | .adcImm v => [0x69#8, v]
  | .rorA => [0x6A#8]
  | .tza => [0x6B#8]
  | .jmpInd w => [0x6C#8, lowByte w, highByte w]
  | .adcAbs w => [0x6D#8, lowByte w, highByte w]
  | .rorAbs w => [0x6E#8, lowByte w, highByte w]
  | .bbr6 b d => [0x6F#8, b, d]
  | .bvsRel d => [0x70#8, d]
  | .adcIndY b => [0x71#8, b]
  | .adcIndZ b => [0x72#8, b]
  | .bvsWord d => [0x73#8, lowByte d, highByte d]
  | .stzBpX b => [0x74#8, b]
  | .adcBpX b => [0x75#8, b]
  | .rorBpX b => [0x76#8, b]
  | .rmb7 b => [0x77#8, b]
  | .sei => [0x78#8]
  | .adcAbsY w => [0x79#8, lowByte w, highByte w]
  | .ply => [0x7A#8]
  | .tba => [0x7B#8]
  | .jmpIndX w => [0x7C#8, lowByte w, highByte w]
  | .adcAbsX w => [0x7D#8, lowByte w, highByte w]
  | .rorAbsX w => [0x7E#8, lowByte w, highByte w]
  | .bbr7 b d => [0x7F#8, b, d]
  | .bruRel d => [0x80#8, d]
  | .staIndX b => [0x81#8, b]
  | .staSpY d => [0x82#8, d]
  | .bruWord d => [0x83#8, lowByte d, highByte d]
  | .styBp b => [0x84#8, b]
  | .staBp b => [0x85#8, b]
  | .stxBp b => [0x86#8, b]
  | .smb0 b => [0x87#8, b]
  | .dey => [0x88#8]
  | .bitImm v => [0x89#8, v]
  | .txa => [0x8A#8]
  | .styAbsX w => [0x8B#8, lowByte w, highByte w]
  | .styAbs w => [0x8C#8, lowByte w, highByte w]
  | .staAbs w => [0x8D#8, lowByte w, highByte w]
  | .stxAbs w => [0x8E#8, lowByte w, highByte w]
  | .bbs0 b d => [0x8F#8, b, d]
  | .bccRel d => [0x90#8, d]
  | .staIndY b => [0x91#8, b]
  | .staIndZ b => [0x92#8, b]
  | .bccWord d => [0x93#8, lowByte d, highByte d]
  | .styBpX b => [0x94#8, b]
  | .staBpX b => [0x95#8, b]
  | .stxBpY b => [0x96#8, b]
  | .smb1 b => [0x97#8, b]
  | .tya => [0x98#8]
  | .staAbsY w => [0x99#8, lowByte w, highByte w]
  | .txs => [0x9A#8]
  | .stxAbsY w => [0x9B#8, lowByte w, highByte w]
  | .stzAbs w => [0x9C#8, lowByte w, highByte w]
  | .staAbsX w => [0x9D#8, lowByte w, highByte w]
  | .stzAbsX w => [0x9E#8, lowByte w, highByte w]
  | .bbs1 b d => [0x9F#8, b, d]
  | .ldyImm v => [0xA0#8, v]
  | .ldaIndX b => [0xA1#8, b]
  | .ldxImm v => [0xA2#8, v]
  | .ldzImm v => [0xA3#8, v]
  | .ldyBp b => [0xA4#8, b]
  | .ldaBp b => [0xA5#8, b]
  | .ldxBp b => [0xA6#8, b]
  | .smb2 b => [0xA7#8, b]
  | .tay => [0xA8#8]
  | .ldaImm v => [0xA9#8, v]
  | .tax => [0xAA#8]
  | .ldzAbs w => [0xAB#8, lowByte w, highByte w]
  | .ldyAbs w => [0xAC#8, lowByte w, highByte w]
  | .ldaAbs w => [0xAD#8, lowByte w, highByte w]
  | .ldxAbs w => [0xAE#8, lowByte w, highByte w]
  | .bbs2 b d => [0xAF#8, b, d]
  | .bcsRel d => [0xB0#8, d]
  | .ldaIndY b => [0xB1#8, b]
  | .ldaIndZ b => [0xB2#8, b]
  | .bcsWord d => [0xB3#8, lowByte d, highByte d]
  | .ldyBpX b => [0xB4#8, b]
  | .ldaBpX b => [0xB5#8, b]
  | .ldxBpY b => [0xB6#8, b]
  | .smb3 b => [0xB7#8, b]
  | .clv => [0xB8#8]
  | .ldaAbsY w => [0xB9#8, lowByte w, highByte w]
  | .tsx => [0xBA#8]
  | .ldzAbsX w => [0xBB#8, lowByte w, highByte w]
  | .ldyAbsX w => [0xBC#8, lowByte w, highByte w]
  | .ldaAbsX w => [0xBD#8, lowByte w, highByte w]
  | .ldxAbsY w => [0xBE#8, lowByte w, highByte w]
  | .bbs3 b d => [0xBF#8, b, d]
  | .cpyImm v => [0xC0#8, v]
  | .cmpIndX b => [0xC1#8, b]
  | .cpzImm v => [0xC2#8, v]
  | .dew b => [0xC3#8, b]
  | .cpyBp b => [0xC4#8, b]
  | .cmpBp b => [0xC5#8, b]
  | .decBp b => [0xC6#8, b]
  | .smb4 b => [0xC7#8, b]
  | .iny => [0xC8#8]
  | .cmpImm v => [0xC9#8, v]
  | .dex => [0xCA#8]
  | .asw w => [0xCB#8, lowByte w, highByte w]
  | .cpyAbs w => [0xCC#8, lowByte w, highByte w]
  | .cmpAbs w => [0xCD#8, lowByte w, highByte w]
  | .decAbs w => [0xCE#8, lowByte w, highByte w]
  | .bbs4 b d => [0xCF#8, b, d]
  | .bneRel d => [0xD0#8, d]
  | .cmpIndY b => [0xD1#8, b]
  | .cmpIndZ b => [0xD2#8, b]
  | .bneWord d => [0xD3#8, lowByte d, highByte d]
  | .cpzBp b => [0xD4#8, b]
  | .cmpBpX b => [0xD5#8, b]
  | .decBpX b => [0xD6#8, b]
  | .smb5 b => [0xD7#8, b]
  | .cld => [0xD8#8]
  | .cmpAbsY w => [0xD9#8, lowByte w, highByte w]
  | .phx => [0xDA#8]
  | .phz => [0xDB#8]
  | .cpzAbs w => [0xDC#8, lowByte w, highByte w]
  | .cmpAbsX w => [0xDD#8, lowByte w, highByte w]
  | .decAbsX w => [0xDE#8, lowByte w, highByte w]
  | .bbs5 b d => [0xDF#8, b, d]
  | .cpxImm v => [0xE0#8, v]
  | .sbcIndX b => [0xE1#8, b]
  | .ldaSpY d => [0xE2#8, d]
  | .inw b => [0xE3#8, b]
  | .cpxBp b => [0xE4#8, b]
  | .sbcBp b => [0xE5#8, b]
  | .incBp b => [0xE6#8, b]
  | .smb6 b => [0xE7#8, b]
  | .inx => [0xE8#8]
  | .sbcImm v => [0xE9#8, v]
  | .nop => [0xEA#8]
  | .row w => [0xEB#8, lowByte w, highByte w]
  | .cpxAbs w => [0xEC#8, lowByte w, highByte w]
  | .sbcAbs w => [0xED#8, lowByte w, highByte w]
  | .incAbs w => [0xEE#8, lowByte w, highByte w]
  | .bbs6 b d => [0xEF#8, b, d]
  | .beqRel d => [0xF0#8, d]
  | .sbcIndY b => [0xF1#8, b]
  | .sbcIndZ b => [0xF2#8, b]
  | .beqWord d => [0xF3#8, lowByte d, highByte d]
  | .phwImm w => [0xF4#8, lowByte w, highByte w]
  | .sbcBpX b => [0xF5#8, b]
  | .incBpX b => [0xF6#8, b]
  | .smb7 b => [0xF7#8, b]
  | .sed => [0xF8#8]
  | .sbcAbsY w => [0xF9#8, lowByte w, highByte w]
  | .plx => [0xFA#8]
  | .plz => [0xFB#8]
  | .phwAbs w => [0xFC#8, lowByte w, highByte w]
  | .sbcAbsX w => [0xFD#8, lowByte w, highByte w]
  | .incAbsX w => [0xFE#8, lowByte w, highByte w]
  | .bbs7 b d => [0xFF#8, b, d]

/-- The opcode byte of an instruction (R305). -/
def Instr.opcode (i : Instr) : Byte := (encode i).headD 0#8

/-- The first `n` bytes of a number, least significant first. -/
def bytesOf : Nat → Nat → List Byte
  | 0, _ => []
  | n + 1, w => BitVec.ofNat 8 w :: bytesOf n (w / 256)

/-- The four bytes, opcode first, of the instruction whose bits are the low `nbits` bits of `w`: the first byte is
bits 7..0, every bit above `nbits` is 0. Four bytes is the longest instruction (R300). -/
def tableBytes (nbits w : Nat) : List Byte := bytesOf 4 (w % 2 ^ nbits)

/-- The instruction the decoder reads from the table word `w` of `nbits` bits. -/
def decodeTableWord (nbits w : Nat) : Option Instr :=
  match decode (tableBytes nbits w) with
  | .ok (i, _) => some i
  | .error _ => none

end Sys2Proof
end

