-- ==== Sys2Proof/Machine/Memory.lean ====
section
/-! DEFINITION. The bytes behind the memory port (R200, R203): a list of cells in canonical form. -/

namespace Sys2Proof.Machine

/-- The 65,536 bytes as (address, byte) pairs, addresses strictly rising, no entry equal to `unlistedByte`. -/
abbrev Memory := List Host.Cell

/-- What an address that is not listed reads as. The initial contents are the host's (R203, U5): any contents can be
listed. DESIGN CHOICE, entry 1. -/
def unlistedByte : Byte := 0x00#8

/-- The byte at an address. -/
def Memory.read (m : Memory) (a : Nat) : Byte :=
  match m with
  | [] => unlistedByte
  | (b, v) :: rest => if b = a then v else Memory.read rest a

/-- A cell put before the first cell with a larger address. -/
def Memory.insert (m : Memory) (a : Nat) (v : Byte) : Memory :=
  match m with
  | [] => [(a, v)]
  | (b, w) :: rest => if a < b then (a, v) :: (b, w) :: rest else (b, w) :: Memory.insert rest a v

/-- The memory without the cell of an address. -/
def Memory.erase (m : Memory) (a : Nat) : Memory := m.filter (fun c => c.1 != a)

/-- A byte stored at an address; the canonical form is kept. -/
def Memory.write (m : Memory) (a : Nat) (v : Byte) : Memory :=
  if v = unlistedByte then m.erase a else (m.erase a).insert a v

/-- The contents a host hands over, cell after cell; a cell outside the address space is no memory (R200). -/
def Memory.ofCells (cells : List Host.Cell) : Memory :=
  cells.foldl (fun m c => if c.1 < 65536 then m.write c.1 c.2 else m) []

/-- The canonical form, for cells at addresses from `lo` on. -/
def Memory.wfFrom (lo : Nat) : Memory → Bool
  | [] => true
  | (a, v) :: rest => decide (lo ≤ a) && decide (a < 65536) && (v != unlistedByte) && Memory.wfFrom (a + 1) rest

/-- The canonical form: addresses strictly rising and inside the address space, no entry that an unlisted address
reads as. -/
def Memory.wf (m : Memory) : Bool := Memory.wfFrom 0 m

end Sys2Proof.Machine
end

