-- ==== Sys2Proof/Machine/PsgDerive.lean ====
section
/-! DEFINITION. The PSG block's derivation functions (R11, R126): derived synthesis state from register values. -/

namespace Sys2Proof.Machine

/-- `BASE_STEP(clock) = floor(clock * 2^STEP_BIAS / (8 * SAMPLE_RATE))` (R11; decision D33). -/
def baseStepOf (cfg : PsgConfig) (clock : Nat) : Nat := clock * 2 ^ cfg.stepBias / (8 * cfg.sampleRate.val)

/-- `((high << 8) | low) << STEP_BIAS` (R126). -/
def toneStepOf (cfg : PsgConfig) (low high : Byte) : Nat := ((high ++ low : BitVec 16)).toNat <<< cfg.stepBias

/-- `max(R[6] << STEP_BIAS, baseStep)` (R126). -/
def noiseStepOf (cfg : PsgConfig) (period : Byte) (baseStep : Nat) : Nat := max (period.toNat <<< cfg.stepBias) baseStep

/-- Whether the gate of bit `i` of the mixer register is enabled: active-low (R122, R126). -/
def gateOf (mixer : Byte) (i : Nat) : Bool := mixer.getLsbD i != Config.mixerActiveLow

/-- The four level bits of a volume register (R126). -/
def levelOf (r : Byte) : BitVec 4 := r.extractLsb' 0 4

/-- `VOLUME_TABLE[level * 2] << VOLUME_BIAS` (R126). -/
def volumeOf (cfg : PsgConfig) (r : Byte) : Nat :=
  cfg.volumeTable[(levelOf r).toNat * 2]'(by have := (levelOf r).isLt; omega) <<< cfg.volumeBias

/-- The envelope-enable bit of a volume register (R126). -/
def envEnableOf (r : Byte) : Bool := r.getLsbD 4

/-- `LFSR_NEXT(s) = (s >> 1) OR (((s XOR (s >> NOISE_TAP)) AND 1) << 15)` (R911). -/
def lfsrNext (tap : NoiseTap) (s : BitVec 16) : BitVec 16 :=
  (s >>> 1) ||| (((s ^^^ (s >>> tap.val)) &&& 1#16) <<< 15)

end Sys2Proof.Machine
end

