-- ==== Sys2Proof/Machine/State.lean ====
section
/-! DEFINITION. The machine's state: everything 10_state gives the two blocks, as plain data, the reasons a step
stops, and the state after reset. -/

namespace Sys2Proof.Machine

/-- The kind of a diagnostic event (R20). -/
inductive DiagKind where
  /-- BRK executed (R810). -/
  | break_
  /-- An opcode outside `IMPLEMENTED` (R404). -/
  | unimplemented
deriving DecidableEq, Repr

/-- One diagnostic event `Diag(kind, opcode, addr)` (R20). -/
structure Diag where
  kind : DiagKind
  /-- The opcode byte. -/
  opcode : Byte
  /-- The address the opcode was fetched from. -/
  addr : Word
deriving DecidableEq, Repr

/-- The kind of a stack fault raised inside an instruction (R432). -/
inductive StackFaultKind where
  | overflow
  | underflow
deriving DecidableEq, Repr

/-- What a step that executed its instruction returned to the caller (R400). -/
inductive StepResult where
  | ok
  | stackFault (kind : StackFaultKind)
deriving DecidableEq, Repr

/-- One operation of the memory port (R201). -/
inductive PortOp where
  /-- `readByte(addr)`, and the byte it answered. -/
  | read (addr : Word) (value : Byte)
  /-- `writeByte(addr, value)`. -/
  | write (addr : Word) (value : Byte)
deriving DecidableEq, Repr

/-- A tone channel (R4). -/
inductive Channel where
  | a
  | b
  | c
deriving DecidableEq, Repr

/-- One value per tone channel. -/
structure PerChannel (α : Type) where
  a : α
  b : α
  c : α
deriving DecidableEq, Repr

/-- The PSG block (R121 to R125). -/
structure Psg where
  /-- The parameters of R11. -/
  cfg : PsgConfig
  /-- `R[0..15]` (R121). -/
  regs : Vector Byte 16
  clock : Nat
  baseStep : Nat
  toneStep : PerChannel Nat
  noiseStep : Nat
  toneGate : PerChannel Bool
  noiseGate : PerChannel Bool
  volume : PerChannel Nat
  envEnable : PerChannel Bool
  toneCount : PerChannel Int
  active : PerChannel Bool
  noiseCount : Int
  seed : BitVec 16
  bufferLength : Nat
  buffer : List Sample
  /-- The MODEL's own: how many free sample values have been drawn (entry 10). -/
  sampleDraws : Nat
deriving DecidableEq, Repr

/-- The whole machine: the CPU block (R100), the bytes and I/O addresses behind its memory port (R203), its
configuration (R10) and one PSG block. -/
structure State where
  /-- Accumulator A (R103). -/
  a : Byte
  /-- Index register X (R104). -/
  x : Byte
  /-- Index register Y (R104). -/
  y : Byte
  /-- Index register Z of the extended variant (R105). -/
  z : Byte
  /-- Stack pointer SP (R107). -/
  sp : Byte
  /-- Status register P: N V E B D I Z C (R109). -/
  p : Byte
  /-- Program counter PC (R108). -/
  pc : Word
  /-- Cycle counter CYC (R115). -/
  cyc : Nat
  /-- BOUND: a memory port is attached (R116). -/
  bound : Bool
  /-- FAULTED (R117). -/
  faulted : Bool
  /-- DIAG (R118), oldest event first. -/
  diag : List Diag
  /-- The bytes behind the memory port (R203). -/
  mem : Memory
  /-- The addresses the host maps to I/O (R203). -/
  io : List Word
  /-- The MODEL's own: how many free I/O bytes have been drawn (entry 7). -/
  ioDraws : Nat
  /-- The MODEL's own: the port operations of the step in progress or just completed, oldest first (entry 8). -/
  portOps : List PortOp
  /-- The MODEL's own: what the latest step returned (R400; entry 5). -/
  lastResult : StepResult
  /-- The configuration (R10), fixed for the instance (R106). -/
  cfg : CpuConfig
  /-- The PSG block. -/
  psg : Psg
deriving DecidableEq, Repr

/-- Why a step stops and changes nothing. -/
inductive Fault where
  /-- `ConfigFault(NoMemory)`: raised by `step` with no memory port bound, before the fetch (R403, R1003). Safe: the
  spec says the call returns this error and changes no state. -/
  | configFaultNoMemory
  /-- `StackFault(Halted)`: raised by `step` while FAULTED (R403, R1005). Safe: the spec says the call returns this
  error and changes no state, until `initialize()`. -/
  | stackFaultHalted
deriving DecidableEq, Repr

/-- Why an instruction has no meaning. -/
inductive Refusal where
  /-- Raised by `exec` for an instruction the model has no meaning for; no arm does. Safe. -/
  | notModelled (mnemonic : String)
deriving DecidableEq, Repr

/-- The outcome of a step or a meaning. -/
abbrev Result := Host.Outcome State Fault Refusal

/-- A newly constructed PSG instance (R901). -/
def Psg.construct (cfg : PsgConfig) : Psg :=
  let base := baseStepOf cfg cfg.defaultClock.val
  let vol := volumeOf cfg 0#8
  { cfg := cfg
    regs := Vector.replicate 16 0#8
    clock := cfg.defaultClock.val
    baseStep := base
    toneStep := ⟨0, 0, 0⟩
    noiseStep := base
    toneGate := ⟨true, true, true⟩
    noiseGate := ⟨true, true, true⟩
    volume := ⟨vol, vol, vol⟩
    envEnable := ⟨false, false, false⟩
    toneCount := ⟨0, 0, 0⟩
    active := ⟨false, false, false⟩
    noiseCount := 0
    seed := cfg.seedInit.val
    bufferLength := 0
    buffer := []
    sampleDraws := 0 }

/-- Newly constructed blocks with the given configurations (R901, R1102): the state `initialize()` produces, no port
bound, no diagnostic. -/
def State.construct (cpu : CpuConfig) (psg : PsgConfig) : State where
  a := 0#8
  x := 0#8
  y := 0#8
  z := 0#8
  sp := 0#8
  p := 0#8
  pc := Config.resetPc
  cyc := 0
  bound := false
  faulted := false
  diag := []
  mem := []
  io := []
  ioDraws := 0
  portOps := []
  lastResult := .ok
  cfg := cpu
  psg := Psg.construct psg

/-- The machine after reset: this hardware, constructed (R1102 to R1104; entry 2). -/
def State.reset : State := State.construct Config.defaultCpu Config.defaultPsg

end Sys2Proof.Machine
end

