-- ==== Sys2Proof/Machine/Ops.lean ====
section
/-! DEFINITION. The named operations over registers, memory and the stack, and the raise of a stack fault. -/

namespace Sys2Proof.Machine

/-! Registers (R14). -/

/-- `A <- v`. -/
def State.setA (s : State) (v : Byte) : State := { s with a := v }
/-- `X <- v`. -/
def State.setX (s : State) (v : Byte) : State := { s with x := v }
/-- `Y <- v`. -/
def State.setY (s : State) (v : Byte) : State := { s with y := v }
/-- `Z <- v`. -/
def State.setZ (s : State) (v : Byte) : State := { s with z := v }
/-- `SP <- v`. -/
def State.setSp (s : State) (v : Byte) : State := { s with sp := v }
/-- `P <- v`, all eight bits (R109). -/
def State.setP (s : State) (v : Byte) : State := { s with p := v }
/-- `PC <- w`. -/
def State.setPc (s : State) (w : Word) : State := { s with pc := w }

/-- PC moved past `n` operand bytes, modulo 2^16 (R108). The bytes of an instruction that has operands were read by
the fetch (Machine/Fetch.lean), so only PC moves here (entry 13). -/
def State.advance (s : State) (n : Nat) : State := s.setPc (s.pc + BitVec.ofNat 16 n)

/-! The memory port (R15, R201, R203). -/

/-- Whether the host maps an address to I/O (R203). -/
def State.isIo (s : State) (a : Word) : Bool := s.io.contains a

/-- The byte `readByte(a)` answers now: the stored byte, or, at a host-mapped I/O address, a draw (R203). -/
def State.portByte (s : State) (a : Word) : Byte :=
  if s.isIo a then Config.ioByte s.ioDraws else s.mem.read a.toNat

/-- The state after `readByte(a)`: the operation is noted, a draw is used up. No byte of memory changes (R203). -/
def State.afterRead (s : State) (a : Word) : State :=
  { s with
    ioDraws := if s.isIo a then s.ioDraws + 1 else s.ioDraws
    portOps := s.portOps ++ [.read a (s.portByte a)] }

/-- `MemRead(a, 1)` (R15). -/
def State.memRead (s : State) (a : Word) : Byte × State := (s.portByte a, s.afterRead a)

/-- `MemWrite(a, 1, v)` (R15). -/
def State.memWrite (s : State) (a : Word) (v : Byte) : State :=
  { s with
    mem := s.mem.write a.toNat v
    portOps := s.portOps ++ [.write a v] }

/-- `Mem16(a)`: low byte at `a`, then high byte at `(a + 1) mod 2^16` (R15, R204, R205). -/
def State.mem16 (s : State) (a : Word) : Word × State :=
  let (lo, s) := s.memRead a
  let (hi, s) := s.memRead (a + 1#16)
  (wordOf hi lo, s)

/-- A 16-bit value stored low byte first (R204, R205). -/
def State.memWrite16 (s : State) (a w : Word) : State :=
  (s.memWrite a (lowByte w)).memWrite (a + 1#16) (highByte w)

/-! Diagnostics and the step's own bookkeeping. -/

/-- `emit Diag(kind, op, addr)` (R16, R20). -/
def State.emit (s : State) (kind : DiagKind) (op : Byte) (addr : Word) : State :=
  { s with diag := s.diag ++ [⟨kind, op, addr⟩] }

/-- The cost of an opcode charged to CYC (R401, R115). -/
def State.charge (s : State) (op : Byte) : State :=
  { s with cyc := s.cyc + s.cfg.cost[op.toNat]'(op.isLt) }

/-- The model's own fields at the start of a step: nothing returned yet, no port operation yet (entries 5, 8). -/
def State.beginStep (s : State) : State := { s with portOps := [], lastResult := .ok }

/-- The unimplemented-opcode rule (R404), entered with PC past the opcode: the operand bytes are skipped unread, the
diagnostic names the opcode's own address. -/
def State.unimplemented (s : State) (op : Byte) : State :=
  (s.advance (opcodeLength op - 1)).emit .unimplemented op (s.pc - 1#16)

/-! The stack (R430 to R433). -/

/-- `StackAddr(s) = (STACK_BASE + s) mod 2^16` (R433). -/
def stackAddr (sp : Byte) : Word := Config.stackBase + zext sp

/-- `raise StackFault(kind)` (R16, R432), the one exception of the block: FAULTED is set, the kind is what the step
returns, nothing else changes and nothing later in the instruction happens. There is no handler and no return from it
but `initialize()` (R1000, R1005). -/
def State.raiseStackFault (s : State) (kind : StackFaultKind) : State :=
  { s with faulted := true, lastResult := .stackFault kind }

/-- `Push(v)` (R430): `.ok` is the state after it, `.error` the state where a stack fault was raised, after the write
and before SP moves. -/
def State.push (s : State) (v : Byte) : Except State State :=
  let s := s.memWrite (stackAddr s.sp) v
  if s.sp = 0x00#8 ∧ s.cfg.stackLimit = .fault then .error (s.raiseStackFault .overflow)
  else .ok (s.setSp (s.sp - 1#8))

/-- `Pull()` (R431): `.ok` is the byte and the state after it, `.error` the state where a stack fault was raised,
before SP moves and before the read. -/
def State.pull (s : State) : Except State (Byte × State) :=
  if s.sp = 0xFF#8 ∧ s.cfg.stackLimit = .fault then .error (s.raiseStackFault .underflow)
  else
    let s := s.setSp (s.sp + 1#8)
    .ok (s.memRead (stackAddr s.sp))

/-- A 16-bit push, high byte first (R205, R434). -/
def State.push16 (s : State) (w : Word) : Except State State :=
  match s.push (highByte w) with
  | .error t => .error t
  | .ok s => s.push (lowByte w)

/-- A 16-bit pull, low byte first (R431). -/
def State.pull16 (s : State) : Except State (Word × State) :=
  match s.pull with
  | .error t => .error t
  | .ok (lo, s) =>
    match s.pull with
    | .error t => .error t
    | .ok (hi, s) => .ok (wordOf hi lo, s)

/-- The step's next state, whether the instruction ran to its end or stopped where it raised a stack fault: the
effects made before the raise stay (R406, R432). -/
def finish : Except State State → Result
  | .ok s => .next s
  | .error s => .next s

end Sys2Proof.Machine
end

