-- ==== Sys2Proof/Machine/Flags.lean ====
section
/-! DEFINITION. The status register's flags and every flag computation (R17, R109, 42, 49). -/

namespace Sys2Proof.Machine

/-- The eight flags of P (R109). -/
inductive Flag where
  /-- Negative. -/
  | n
  /-- Overflow. -/
  | v
  /-- Extend-disable. -/
  | e
  /-- Break. -/
  | b
  /-- Decimal. -/
  | d
  /-- Interrupt-disable. -/
  | i
  /-- Zero. -/
  | z
  /-- Carry. -/
  | c
deriving DecidableEq, Repr

/-- The bit of P a flag is (R109). -/
def Flag.bit : Flag → Nat
  | .n => 7
  | .v => 6
  | .e => 5
  | .b => 4
  | .d => 3
  | .i => 2
  | .z => 1
  | .c => 0

/-- `P.f` (R14). -/
def State.flag (s : State) (f : Flag) : Bool := s.p.getLsbD f.bit

/-- `P.f <- v` (R14): the other seven bits keep their values (R114). -/
def State.setFlag (s : State) (f : Flag) (v : Bool) : State :=
  s.setP (if v then s.p ||| (1#8 <<< f.bit) else s.p &&& ~~~(1#8 <<< f.bit))

/-- `SetNZ8(v)` (R17). -/
def State.setNZ8 (s : State) (v : Byte) : State := (s.setFlag .z (v == 0#8)).setFlag .n v.msb

/-- `SetNZ16(w)` (R17). -/
def State.setNZ16 (s : State) (w : Word) : State := (s.setFlag .z (w == 0#16)).setFlag .n w.msb

/-! One-bit shifts and rotates (R500 to R506): the result, and the bit that goes to C. -/

/-- A shift's result and its new carry. -/
structure ShiftOut where
  value : Byte
  carry : Bool
deriving DecidableEq, Repr

/-- R500. -/
def aslByte (v : Byte) (_ : Bool) : ShiftOut := ⟨v <<< 1, v.getLsbD 7⟩
/-- R501. -/
def lsrByte (v : Byte) (_ : Bool) : ShiftOut := ⟨v >>> 1, v.getLsbD 0⟩
/-- R502. -/
def rolByte (v : Byte) (c : Bool) : ShiftOut := ⟨(v <<< 1) ||| (BitVec.ofBool c).setWidth 8, v.getLsbD 7⟩
/-- R503. -/
def rorByte (v : Byte) (c : Bool) : ShiftOut := ⟨((BitVec.ofBool c).setWidth 8 <<< 7) ||| (v >>> 1), v.getLsbD 0⟩
/-- R504. -/
def asrByte (v : Byte) (_ : Bool) : ShiftOut := ⟨(v >>> 1) ||| (v &&& 0x80#8), v.getLsbD 0⟩

/-! Add, subtract, compare (R860 to R864): the result, the carry and the overflow. -/

/-- The result, carry and overflow of an addition or subtraction. -/
structure AluOut where
  value : Byte
  carry : Bool
  overflow : Bool
deriving DecidableEq, Repr

/-- Binary ADC (R860); SBC is the same sum with the operand complemented (R861). -/
def addBinary (a v : Byte) (c : Bool) : AluOut :=
  let sum := a.toNat + v.toNat + c.toNat
  let r := BitVec.ofNat 8 sum
  ⟨r, decide (sum > 0xFF), ((a ^^^ r) &&& (v ^^^ r) &&& 0x80#8) != 0#8⟩

/-- Binary SBC (R861). -/
def subBinary (a v : Byte) (c : Bool) : AluOut := addBinary a (~~~v) c

/-- `DecimalAdd` (R862): the low digit's sum, corrected. -/
def decimalLow (a v : Byte) (c : Bool) : Nat :=
  let al := (a &&& 0x0F#8).toNat + (v &&& 0x0F#8).toNat + c.toNat
  if al ≥ 0x0A then ((al + 0x06) % 16) + 0x10 else al

/-- `DecimalAdd` (R862). -/
def addDecimal (a v : Byte) (c : Bool) : AluOut :=
  let al := decimalLow a v c
  let sum := (a &&& 0xF0#8).toNat + (v &&& 0xF0#8).toNat + al
  let sv := (a &&& 0xF0#8).toInt + (v &&& 0xF0#8).toInt + (al : Int)
  let sum := if sum ≥ 0xA0 then sum + 0x60 else sum
  ⟨BitVec.ofNat 8 sum, decide (sum ≥ 0x100), decide (sv < -128 ∨ sv > 127)⟩

/-- `DecimalSub` (R863): C and V as binary SBC. -/
def subDecimal (a v : Byte) (c : Bool) : AluOut :=
  let bin := subBinary a v c
  let carry : Int := c.toNat
  let al : Int := (a &&& 0x0F#8).toNat - (v &&& 0x0F#8).toNat + carry - 1
  let r : Int := a.toNat - v.toNat + carry - 1
  let r := if r < 0 then r - 0x60 else r
  let r := if al < 0 then r - 0x06 else r
  ⟨BitVec.ofInt 8 r, bin.carry, bin.overflow⟩

/-- ADC's result by the decimal flag and `DECIMAL_MODEL` (R860, R862, R10). -/
def adcOut (model : DecimalModel) (decimal : Bool) (a v : Byte) (c : Bool) : AluOut :=
  match decimal, model with
  | false, _ => addBinary a v c
  | true, .c02 => addDecimal a v c
  | true, .open_ =>
    let (r, carry, overflow) := Config.openDecimalAdd a v c
    ⟨r, carry, overflow⟩

/-- SBC's result by the decimal flag and `DECIMAL_MODEL` (R861, R863, R10). -/
def sbcOut (model : DecimalModel) (decimal : Bool) (a v : Byte) (c : Bool) : AluOut :=
  match decimal, model with
  | false, _ => subBinary a v c
  | true, .c02 => subDecimal a v c
  | true, .open_ =>
    let (r, carry, overflow) := Config.openDecimalSub a v c
    ⟨r, carry, overflow⟩

/-- A result stored in A with its N, V, Z and C (R860 to R863). -/
def State.setAlu (s : State) (o : AluOut) : State :=
  (((s.setFlag .c o.carry).setFlag .v o.overflow).setA o.value).setNZ8 o.value

/-- `Compare(r, v)` (R864). -/
def State.setCompare (s : State) (r v : Byte) : State :=
  (s.setFlag .c (decide (r.toNat ≥ v.toNat))).setNZ8 (r - v)

end Sys2Proof.Machine
end

