-- ==== Sys2Proof/Machine/Operands.lean ====
section
/-! DEFINITION. Every addressing mode and operand form (R410 to R428). -/

namespace Sys2Proof.Machine

/-- The memory addressing modes, with their operand bytes (R301). -/
inductive AddrMode where
  /-- `bp` (R413). -/
  | bp (b : Byte)
  /-- `bpx` (R414). -/
  | bpX (b : Byte)
  /-- `bpy` (R415). -/
  | bpY (b : Byte)
  /-- `abs` (R416). -/
  | abs (w : Word)
  /-- `absx` (R417). -/
  | absX (w : Word)
  /-- `absy` (R418). -/
  | absY (w : Word)
  /-- `indx` (R419). -/
  | indX (b : Byte)
  /-- `indy` (R420). -/
  | indY (b : Byte)
  /-- `indz` (R421). -/
  | indZ (b : Byte)
  /-- `spy` (R422). -/
  | spY (d : Byte)
  /-- `ind` (R423). -/
  | ind (w : Word)
  /-- `iax` (R424). -/
  | absIndX (w : Word)
deriving DecidableEq, Repr

/-- How many operand bytes a mode consumes (R301). -/
def AddrMode.operandBytes : AddrMode → Nat
  | .bp _ | .bpX _ | .bpY _ | .indX _ | .indY _ | .indZ _ | .spY _ => 1
  | .abs _ | .absX _ | .absY _ | .ind _ | .absIndX _ => 2

/-- A pointer read at `p` and indexed by `i`, modulo 2^16 (R420 to R422). -/
def State.indirect (s : State) (p : Word) (i : Byte) : Word × State :=
  let (ptr, s) := s.mem16 p
  (ptr + zext i, s)

/-- `EA(mode)` (R413 to R424): the operand bytes are consumed, the pointer, if any, is read. Every sum is modulo
2^16. -/
def State.ea (s : State) (m : AddrMode) : Word × State :=
  let s := s.advance m.operandBytes
  match m with
  | .bp b => (zext b, s)
  | .bpX b => (zext b + zext s.x, s)
  | .bpY b => (zext b + zext s.y, s)
  | .abs w => (w, s)
  | .absX w => (w + zext s.x, s)
  | .absY w => (w + zext s.y, s)
  | .indX b => s.mem16 (zext b + zext s.x)
  | .indY b => s.indirect (zext b) s.y
  | .indZ b => s.indirect (zext b) s.z
  | .spY d => s.indirect (stackAddr s.sp + zext d) s.y
  | .ind w => s.mem16 w
  | .absIndX w => s.mem16 (w + zext s.x)

/-- Where an 8-bit operand comes from: an immediate (R411), the accumulator (R410) or memory. -/
inductive Source where
  | imm (v : Byte)
  | acc
  | mem (m : AddrMode)
deriving DecidableEq, Repr

/-- `Load(mode)` (R425). -/
def State.load (s : State) (src : Source) : Byte × State :=
  match src with
  | .imm v => (v, s.advance 1)
  | .acc => (s.a, s)
  | .mem m =>
    let (ea, s) := s.ea m
    s.memRead ea

/-- What a read-modify-write instruction works on: the accumulator or memory (R425, R429). -/
inductive Place where
  | acc
  | mem (m : AddrMode)
deriving DecidableEq, Repr

/-- `RMW(mode, f)` (R425): one read, then one write; `f` may write flags. -/
def State.rmw (s : State) (place : Place) (f : Byte → State → Byte × State) : State :=
  match place with
  | .acc =>
    let (r, s) := f s.a s
    s.setA r
  | .mem m =>
    let (ea, s) := s.ea m
    let (v, s) := s.memRead ea
    let (r, s) := f v s
    s.memWrite ea r

/-- The displacement of a relative branch (R301). -/
inductive Displacement where
  /-- `rel`. -/
  | short (d : Byte)
  /-- `wrel`. -/
  | word (d : Word)
deriving DecidableEq, Repr

/-- `RelTarget8()` and `RelTarget16()` (R426, R427): the displacement bytes are consumed, then added to PC. -/
def State.relTarget (s : State) (d : Displacement) : Word × State :=
  match d with
  | .short d =>
    let s := s.advance 1
    (s.pc + sext d, s)
  | .word d =>
    let s := s.advance 2
    (s.pc + d, s)

end Sys2Proof.Machine
end

