-- ==== Sys2Proof/Machine/Transfer.lean ====
section
/-! DEFINITION. Register transfers (45_transfer). -/

namespace Sys2Proof.Machine

/-- A value put in a register, N and Z from it. -/
def transfer (set : State → Byte → State) (v : Byte) (s : State) : Result := .next ((set s v).setNZ8 v)

/-- TAB (R660): outside `IMPLEMENTED` the unimplemented-opcode rule, inside it a NOP (entry 12). -/
def tab (s : State) : Result := if s.cfg.implements 0x5B#8 then .next s else .next (s.unimplemented 0x5B#8)

/-- TBA (R661): outside `IMPLEMENTED` the unimplemented-opcode rule, inside it `A <- 0x00; SetNZ8(A)` (entry 12). -/
def tba (s : State) : Result :=
  if s.cfg.implements 0x7B#8 then transfer State.setA 0x00#8 s else .next (s.unimplemented 0x7B#8)

/-- 0x0B TSY (R650). -/
def execTsy (s : State) : Result := transfer State.setY s.sp s
/-- 0x2B TYS (R651). -/
def execTys (s : State) : Result := .next (s.setSp s.y)
/-- 0x4B TAZ (R656). -/
def execTaz (s : State) : Result := transfer State.setZ s.a s
/-- 0x5B TAB (R660). -/
def execTab (s : State) : Result := tab s
/-- 0x6B TZA (R659). -/
def execTza (s : State) : Result := transfer State.setA s.z s
/-- 0x7B TBA (R661). -/
def execTba (s : State) : Result := tba s
/-- 0x8A TXA (R657). -/
def execTxa (s : State) : Result := transfer State.setA s.x s
/-- 0x98 TYA (R658). -/
def execTya (s : State) : Result := transfer State.setA s.y s
/-- 0x9A TXS (R653). -/
def execTxs (s : State) : Result := .next (s.setSp s.x)
/-- 0xA8 TAY (R655). -/
def execTay (s : State) : Result := transfer State.setY s.a s
/-- 0xAA TAX (R654). -/
def execTax (s : State) : Result := transfer State.setX s.a s
/-- 0xBA TSX (R652). -/
def execTsx (s : State) : Result := transfer State.setX s.sp s

end Sys2Proof.Machine
end

