-- ==== Sys2Proof/Machine/Arith.lean ====
section
/-! DEFINITION. Add, subtract, compare and negate (49_load_store_arithmetic). -/

namespace Sys2Proof.Machine

/-- ADC (R860, R862). -/
def adc (src : Source) (s : State) : Result :=
  let (v, s) := s.load src
  .next (s.setAlu (adcOut s.cfg.decimalModel (s.flag .d) s.a v (s.flag .c)))

/-- SBC (R861, R863). -/
def sbc (src : Source) (s : State) : Result :=
  let (v, s) := s.load src
  .next (s.setAlu (sbcOut s.cfg.decimalModel (s.flag .d) s.a v (s.flag .c)))

/-- `Compare(r, Load(mode))` (R864 to R868). -/
def compare (r : Byte) (src : Source) (s : State) : Result :=
  let (v, s) := s.load src
  .next (s.setCompare r v)

/-- 0x42 NEG A (R869). -/
def execNeg (s : State) : Result := transfer State.setA (0#8 - s.a) s
/-- 0x61 ADC ($nn,X) (R860). -/
def execAdcIndX (b : Byte) (s : State) : Result := adc (.mem (.indX b)) s
/-- 0x65 ADC $nn (R860). -/
def execAdcBp (b : Byte) (s : State) : Result := adc (.mem (.bp b)) s
/-- 0x69 ADC #$nn (R860). -/
def execAdcImm (v : Byte) (s : State) : Result := adc (.imm v) s
/-- 0x6D ADC $nnnn (R860). -/
def execAdcAbs (w : Word) (s : State) : Result := adc (.mem (.abs w)) s
/-- 0x71 ADC ($nn),Y (R860). -/
def execAdcIndY (b : Byte) (s : State) : Result := adc (.mem (.indY b)) s
/-- 0x72 ADC ($nn),Z (R860). -/
def execAdcIndZ (b : Byte) (s : State) : Result := adc (.mem (.indZ b)) s
/-- 0x75 ADC $nn,X (R860). -/
def execAdcBpX (b : Byte) (s : State) : Result := adc (.mem (.bpX b)) s
/-- 0x79 ADC $nnnn,Y (R860). -/
def execAdcAbsY (w : Word) (s : State) : Result := adc (.mem (.absY w)) s
/-- 0x7D ADC $nnnn,X (R860). -/
def execAdcAbsX (w : Word) (s : State) : Result := adc (.mem (.absX w)) s
/-- 0xC0 CPY #$nn (R867). -/
def execCpyImm (v : Byte) (s : State) : Result := compare s.y (.imm v) s
/-- 0xC1 CMP ($nn,X) (R865). -/
def execCmpIndX (b : Byte) (s : State) : Result := compare s.a (.mem (.indX b)) s
/-- 0xC2 CPZ #$nn (R868). -/
def execCpzImm (v : Byte) (s : State) : Result := compare s.z (.imm v) s
/-- 0xC4 CPY $nn (R867). -/
def execCpyBp (b : Byte) (s : State) : Result := compare s.y (.mem (.bp b)) s
/-- 0xC5 CMP $nn (R865). -/
def execCmpBp (b : Byte) (s : State) : Result := compare s.a (.mem (.bp b)) s
/-- 0xC9 CMP #$nn (R865). -/
def execCmpImm (v : Byte) (s : State) : Result := compare s.a (.imm v) s
/-- 0xCC CPY $nnnn (R867). -/
def execCpyAbs (w : Word) (s : State) : Result := compare s.y (.mem (.abs w)) s
/-- 0xCD CMP $nnnn (R865). -/
def execCmpAbs (w : Word) (s : State) : Result := compare s.a (.mem (.abs w)) s
/-- 0xD1 CMP ($nn),Y (R865). -/
def execCmpIndY (b : Byte) (s : State) : Result := compare s.a (.mem (.indY b)) s
/-- 0xD2 CMP ($nn),Z (R865). -/
def execCmpIndZ (b : Byte) (s : State) : Result := compare s.a (.mem (.indZ b)) s
/-- 0xD4 CPZ $nn (R868). -/
def execCpzBp (b : Byte) (s : State) : Result := compare s.z (.mem (.bp b)) s
/-- 0xD5 CMP $nn,X (R865). -/
def execCmpBpX (b : Byte) (s : State) : Result := compare s.a (.mem (.bpX b)) s
/-- 0xD9 CMP $nnnn,Y (R865). -/
def execCmpAbsY (w : Word) (s : State) : Result := compare s.a (.mem (.absY w)) s
/-- 0xDC CPZ $nnnn (R868). -/
def execCpzAbs (w : Word) (s : State) : Result := compare s.z (.mem (.abs w)) s
/-- 0xDD CMP $nnnn,X (R865). -/
def execCmpAbsX (w : Word) (s : State) : Result := compare s.a (.mem (.absX w)) s
/-- 0xE0 CPX #$nn (R866). -/
def execCpxImm (v : Byte) (s : State) : Result := compare s.x (.imm v) s
/-- 0xE1 SBC ($nn,X) (R861). -/
def execSbcIndX (b : Byte) (s : State) : Result := sbc (.mem (.indX b)) s
/-- 0xE4 CPX $nn (R866). -/
def execCpxBp (b : Byte) (s : State) : Result := compare s.x (.mem (.bp b)) s
/-- 0xE5 SBC $nn (R861). -/
def execSbcBp (b : Byte) (s : State) : Result := sbc (.mem (.bp b)) s
/-- 0xE9 SBC #$nn (R861). -/
def execSbcImm (v : Byte) (s : State) : Result := sbc (.imm v) s
/-- 0xEC CPX $nnnn (R866). -/
def execCpxAbs (w : Word) (s : State) : Result := compare s.x (.mem (.abs w)) s
/-- 0xED SBC $nnnn (R861). -/
def execSbcAbs (w : Word) (s : State) : Result := sbc (.mem (.abs w)) s
/-- 0xF1 SBC ($nn),Y (R861). -/
def execSbcIndY (b : Byte) (s : State) : Result := sbc (.mem (.indY b)) s
/-- 0xF2 SBC ($nn),Z (R861). -/
def execSbcIndZ (b : Byte) (s : State) : Result := sbc (.mem (.indZ b)) s
/-- 0xF5 SBC $nn,X (R861). -/
def execSbcBpX (b : Byte) (s : State) : Result := sbc (.mem (.bpX b)) s
/-- 0xF9 SBC $nnnn,Y (R861). -/
def execSbcAbsY (w : Word) (s : State) : Result := sbc (.mem (.absY w)) s
/-- 0xFD SBC $nnnn,X (R861). -/
def execSbcAbsX (w : Word) (s : State) : Result := sbc (.mem (.absX w)) s

end Sys2Proof.Machine
end

