-- ==== Sys2Proof/Machine/BitManip.lean ====
section
/-! DEFINITION. Memory bit manipulation (43_bit_manipulation): RMBn, SMBn. -/

namespace Sys2Proof.Machine

/-- RMB(n) (R550): bit `n` of the base-page byte cleared, no flag written. -/
def rmb (n : Nat) (b : Byte) (s : State) : Result :=
  .next (s.rmw (.mem (.bp b)) fun m s => (m &&& ~~~(1#8 <<< n), s))

/-- SMB(n) (R560): bit `n` of the base-page byte set, no flag written. -/
def smb (n : Nat) (b : Byte) (s : State) : Result :=
  .next (s.rmw (.mem (.bp b)) fun m s => (m ||| (1#8 <<< n), s))

/-- 0x07 RMB0 $nn (R551). -/
def execRmb0 (b : Byte) (s : State) : Result := rmb 0 b s
/-- 0x17 RMB1 $nn (R552). -/
def execRmb1 (b : Byte) (s : State) : Result := rmb 1 b s
/-- 0x27 RMB2 $nn (R553). -/
def execRmb2 (b : Byte) (s : State) : Result := rmb 2 b s
/-- 0x37 RMB3 $nn (R554). -/
def execRmb3 (b : Byte) (s : State) : Result := rmb 3 b s
/-- 0x47 RMB4 $nn (R555). -/
def execRmb4 (b : Byte) (s : State) : Result := rmb 4 b s
/-- 0x57 RMB5 $nn (R556). -/
def execRmb5 (b : Byte) (s : State) : Result := rmb 5 b s
/-- 0x67 RMB6 $nn (R557). -/
def execRmb6 (b : Byte) (s : State) : Result := rmb 6 b s
/-- 0x77 RMB7 $nn (R558). -/
def execRmb7 (b : Byte) (s : State) : Result := rmb 7 b s
/-- 0x87 SMB0 $nn (R561). -/
def execSmb0 (b : Byte) (s : State) : Result := smb 0 b s
/-- 0x97 SMB1 $nn (R562). -/
def execSmb1 (b : Byte) (s : State) : Result := smb 1 b s
/-- 0xA7 SMB2 $nn (R563). -/
def execSmb2 (b : Byte) (s : State) : Result := smb 2 b s
/-- 0xB7 SMB3 $nn (R564). -/
def execSmb3 (b : Byte) (s : State) : Result := smb 3 b s
/-- 0xC7 SMB4 $nn (R565). -/
def execSmb4 (b : Byte) (s : State) : Result := smb 4 b s
/-- 0xD7 SMB5 $nn (R566). -/
def execSmb5 (b : Byte) (s : State) : Result := smb 5 b s
/-- 0xE7 SMB6 $nn (R567). -/
def execSmb6 (b : Byte) (s : State) : Result := smb 6 b s
/-- 0xF7 SMB7 $nn (R568). -/
def execSmb7 (b : Byte) (s : State) : Result := smb 7 b s

end Sys2Proof.Machine
end

