-- ==== Sys2Proof/Machine/Control.lean ====
section
/-! DEFINITION. Control transfer (47_control_transfer). -/

namespace Sys2Proof.Machine

/-- `Branch(form, cond)` (R750): the displacement is consumed whether or not the branch is taken. -/
def branch (d : Displacement) (cond : Bool) (s : State) : Result :=
  let (target, s) := s.relTarget d
  if cond then .next (s.setPc target) else .next s

/-- A branch on bit `n` of a base-page byte equal to `bit`; the target is taken from PC after both operand bytes
(R428, R760, R770). -/
def branchOnBit (bit : Bool) (n : Nat) (b d : Byte) (s : State) : Result :=
  let s := s.advance 2
  let target := s.pc + sext d
  let (m, s) := s.memRead (zext b)
  if m.getLsbD n = bit then .next (s.setPc target) else .next s

/-- BBR(n) (R760). -/
def bbr (n : Nat) (b d : Byte) (s : State) : Result := branchOnBit false n b d s
/-- BBS(n) (R770). -/
def bbs (n : Nat) (b d : Byte) (s : State) : Result := branchOnBit true n b d s

/-- JMP (R780). -/
def jmp (m : AddrMode) (s : State) : Result :=
  let (target, s) := s.ea m
  .next (s.setPc target)

/-- The return address pushed, then the jump (R781, R782): PC is past the instruction, and `PC - 1` is the address of
its last byte. -/
def call (target : Word) (s : State) : Result :=
  match s.push16 (s.pc - 1#16) with
  | .error t => .next t
  | .ok s => .next (s.setPc target)

/-- JSR (R781). -/
def jsr (m : AddrMode) (s : State) : Result :=
  let (target, s) := s.ea m
  call target s

/-- BSR (R782). -/
def bsr (d : Word) (s : State) : Result :=
  let (target, s) := s.relTarget (.word d)
  call target s

/-- RTS (R783). -/
def rts (s : State) : Result :=
  match s.pull16 with
  | .error t => .next t
  | .ok (w, s) => .next (s.setPc (w + 1#16))

/-- RTN (R784): PC is set before SP is adjusted by `n`. -/
def rtn (n : Byte) (s : State) : Result :=
  match (s.advance 1).pull16 with
  | .error t => .next t
  | .ok (w, s) =>
    let s := s.setPc (w + 1#16)
    if s.sp.toNat + n.toNat > 0xFF ∧ s.cfg.stackLimit = .fault then .next (s.raiseStackFault .underflow)
    else .next (s.setSp (s.sp + n))

/-- RTI (R785), the return from an interrupt: P, then PC low, then PC high, no + 1. An ordinary instruction: no
interrupt or trap exists to return from (R1010). -/
def rti (s : State) : Result :=
  match s.pull with
  | .error t => .next t
  | .ok (v, s) =>
    match (s.setP v).pull16 with
    | .error t => .next t
    | .ok (w, s) => .next (s.setPc w)

/-- 0x0F BBR0 $nn,label (R761). -/
def execBbr0 (b : Byte) (d : Byte) (s : State) : Result := bbr 0 b d s
/-- 0x10 BPL label (R751). -/
def execBplRel (d : Byte) (s : State) : Result := branch (.short d) (!s.flag .n) s
/-- 0x13 BPL label (R751). -/
def execBplWord (d : Word) (s : State) : Result := branch (.word d) (!s.flag .n) s
/-- 0x1F BBR1 $nn,label (R762). -/
def execBbr1 (b : Byte) (d : Byte) (s : State) : Result := bbr 1 b d s
/-- 0x20 JSR $nnnn (R781). -/
def execJsrAbs (w : Word) (s : State) : Result := jsr (.abs w) s
/-- 0x22 JSR ($nnnn) (R781). -/
def execJsrInd (w : Word) (s : State) : Result := jsr (.ind w) s
/-- 0x23 JSR ($nnnn,X) (R781). -/
def execJsrIndX (w : Word) (s : State) : Result := jsr (.absIndX w) s
/-- 0x2F BBR2 $nn,label (R763). -/
def execBbr2 (b : Byte) (d : Byte) (s : State) : Result := bbr 2 b d s
/-- 0x30 BMI label (R752). -/
def execBmiRel (d : Byte) (s : State) : Result := branch (.short d) (s.flag .n) s
/-- 0x33 BMI label (R752). -/
def execBmiWord (d : Word) (s : State) : Result := branch (.word d) (s.flag .n) s
/-- 0x3F BBR3 $nn,label (R764). -/
def execBbr3 (b : Byte) (d : Byte) (s : State) : Result := bbr 3 b d s
/-- 0x40 RTI (R785). -/
def execRti (s : State) : Result := rti s
/-- 0x4C JMP $nnnn (R780). -/
def execJmpAbs (w : Word) (s : State) : Result := jmp (.abs w) s
/-- 0x4F BBR4 $nn,label (R765). -/
def execBbr4 (b : Byte) (d : Byte) (s : State) : Result := bbr 4 b d s
/-- 0x50 BVC label (R753). -/
def execBvcRel (d : Byte) (s : State) : Result := branch (.short d) (!s.flag .v) s
/-- 0x53 BVC label (R753). -/
def execBvcWord (d : Word) (s : State) : Result := branch (.word d) (!s.flag .v) s
/-- 0x5F BBR5 $nn,label (R766). -/
def execBbr5 (b : Byte) (d : Byte) (s : State) : Result := bbr 5 b d s
/-- 0x60 RTS (R783). -/
def execRts (s : State) : Result := rts s
/-- 0x62 RTN #$nn (R784). -/
def execRtn (v : Byte) (s : State) : Result := rtn v s
/-- 0x63 BSR label (R782). -/
def execBsr (d : Word) (s : State) : Result := bsr d s
/-- 0x6C JMP ($nnnn) (R780). -/
def execJmpInd (w : Word) (s : State) : Result := jmp (.ind w) s
/-- 0x6F BBR6 $nn,label (R767). -/
def execBbr6 (b : Byte) (d : Byte) (s : State) : Result := bbr 6 b d s
/-- 0x70 BVS label (R754). -/
def execBvsRel (d : Byte) (s : State) : Result := branch (.short d) (s.flag .v) s
/-- 0x73 BVS label (R754). -/
def execBvsWord (d : Word) (s : State) : Result := branch (.word d) (s.flag .v) s
/-- 0x7C JMP ($nnnn,X) (R780). -/
def execJmpIndX (w : Word) (s : State) : Result := jmp (.absIndX w) s
/-- 0x7F BBR7 $nn,label (R768). -/
def execBbr7 (b : Byte) (d : Byte) (s : State) : Result := bbr 7 b d s
/-- 0x80 BRU label (R759). -/
def execBruRel (d : Byte) (s : State) : Result := branch (.short d) true s
/-- 0x83 BRU label (R759). -/
def execBruWord (d : Word) (s : State) : Result := branch (.word d) true s
/-- 0x8F BBS0 $nn,label (R771). -/
def execBbs0 (b : Byte) (d : Byte) (s : State) : Result := bbs 0 b d s
/-- 0x90 BCC label (R755). -/
def execBccRel (d : Byte) (s : State) : Result := branch (.short d) (!s.flag .c) s
/-- 0x93 BCC label (R755). -/
def execBccWord (d : Word) (s : State) : Result := branch (.word d) (!s.flag .c) s
/-- 0x9F BBS1 $nn,label (R772). -/
def execBbs1 (b : Byte) (d : Byte) (s : State) : Result := bbs 1 b d s
/-- 0xAF BBS2 $nn,label (R773). -/
def execBbs2 (b : Byte) (d : Byte) (s : State) : Result := bbs 2 b d s
/-- 0xB0 BCS label (R756). -/
def execBcsRel (d : Byte) (s : State) : Result := branch (.short d) (s.flag .c) s
/-- 0xB3 BCS label (R756). -/
def execBcsWord (d : Word) (s : State) : Result := branch (.word d) (s.flag .c) s
/-- 0xBF BBS3 $nn,label (R774). -/
def execBbs3 (b : Byte) (d : Byte) (s : State) : Result := bbs 3 b d s
/-- 0xCF BBS4 $nn,label (R775). -/
def execBbs4 (b : Byte) (d : Byte) (s : State) : Result := bbs 4 b d s
/-- 0xD0 BNE label (R757). -/
def execBneRel (d : Byte) (s : State) : Result := branch (.short d) (!s.flag .z) s
/-- 0xD3 BNE label (R757). -/
def execBneWord (d : Word) (s : State) : Result := branch (.word d) (!s.flag .z) s
/-- 0xDF BBS5 $nn,label (R776). -/
def execBbs5 (b : Byte) (d : Byte) (s : State) : Result := bbs 5 b d s
/-- 0xEF BBS6 $nn,label (R777). -/
def execBbs6 (b : Byte) (d : Byte) (s : State) : Result := bbs 6 b d s
/-- 0xF0 BEQ label (R758). -/
def execBeqRel (d : Byte) (s : State) : Result := branch (.short d) (s.flag .z) s
/-- 0xF3 BEQ label (R758). -/
def execBeqWord (d : Word) (s : State) : Result := branch (.word d) (s.flag .z) s
/-- 0xFF BBS7 $nn,label (R778). -/
def execBbs7 (b : Byte) (d : Byte) (s : State) : Result := bbs 7 b d s

end Sys2Proof.Machine
end

