-- ==== Sys2Proof/Machine/IncDec.lean ====
section
/-! DEFINITION. Increments and decrements (46_inc_dec). -/

namespace Sys2Proof.Machine

/-- INC (R700). -/
def inc (place : Place) (s : State) : Result :=
  .next (s.rmw place fun v s => (v + 1#8, s.setNZ8 (v + 1#8)))

/-- DEC (R704). -/
def dec (place : Place) (s : State) : Result :=
  .next (s.rmw place fun v s => (v - 1#8, s.setNZ8 (v - 1#8)))

/-- A function applied to the word at a base-page address, N and Z from the 16-bit result (R708, R709). -/
def updateWord (f : Word → Word) (b : Byte) (s : State) : Result :=
  let (ea, s) := s.ea (.bp b)
  let (v, s) := s.mem16 ea
  let r := f v
  .next ((s.memWrite16 ea r).setNZ16 r)

/-- INW (R708). -/
def inw (b : Byte) (s : State) : Result := updateWord (· + 1#16) b s
/-- DEW (R709). -/
def dew (b : Byte) (s : State) : Result := updateWord (· - 1#16) b s

/-- 0x1A INC A (R700). -/
def execIncA (s : State) : Result := inc .acc s
/-- 0x1B INZ (R703). -/
def execInz (s : State) : Result := transfer State.setZ (s.z + 1#8) s
/-- 0x3A DEC A (R704). -/
def execDecA (s : State) : Result := dec .acc s
/-- 0x3B DEZ (R707). -/
def execDez (s : State) : Result := transfer State.setZ (s.z - 1#8) s
/-- 0x88 DEY (R706). -/
def execDey (s : State) : Result := transfer State.setY (s.y - 1#8) s
/-- 0xC3 DEW $nn (R709). -/
def execDew (b : Byte) (s : State) : Result := dew b s
/-- 0xC6 DEC $nn (R704). -/
def execDecBp (b : Byte) (s : State) : Result := dec (.mem (.bp b)) s
/-- 0xC8 INY (R702). -/
def execIny (s : State) : Result := transfer State.setY (s.y + 1#8) s
/-- 0xCA DEX (R705). -/
def execDex (s : State) : Result := transfer State.setX (s.x - 1#8) s
/-- 0xCE DEC $nnnn (R704). -/
def execDecAbs (w : Word) (s : State) : Result := dec (.mem (.abs w)) s
/-- 0xD6 DEC $nn,X (R704). -/
def execDecBpX (b : Byte) (s : State) : Result := dec (.mem (.bpX b)) s
/-- 0xDE DEC $nnnn,X (R704). -/
def execDecAbsX (w : Word) (s : State) : Result := dec (.mem (.absX w)) s
/-- 0xE3 INW $nn (R708). -/
def execInw (b : Byte) (s : State) : Result := inw b s
/-- 0xE6 INC $nn (R700). -/
def execIncBp (b : Byte) (s : State) : Result := inc (.mem (.bp b)) s
/-- 0xE8 INX (R701). -/
def execInx (s : State) : Result := transfer State.setX (s.x + 1#8) s
/-- 0xEE INC $nnnn (R700). -/
def execIncAbs (w : Word) (s : State) : Result := inc (.mem (.abs w)) s
/-- 0xF6 INC $nn,X (R700). -/
def execIncBpX (b : Byte) (s : State) : Result := inc (.mem (.bpX b)) s
/-- 0xFE INC $nnnn,X (R700). -/
def execIncAbsX (w : Word) (s : State) : Result := inc (.mem (.absX w)) s

end Sys2Proof.Machine
end

