-- ==== Sys2Proof/Machine/LoadStore.lean ====
section
/-! DEFINITION. Loads and stores (49_load_store_arithmetic). -/

namespace Sys2Proof.Machine

/-- `r <- Load(mode); SetNZ8(r)` (R850 to R853). -/
def load (set : State → Byte → State) (src : Source) (s : State) : Result :=
  let (v, s) := s.load src
  .next ((set s v).setNZ8 v)

/-- `ea <- EA(mode); Store(ea, r)` (R854 to R857): the target byte is not read, no flag is written. -/
def store (r : Byte) (m : AddrMode) (s : State) : Result :=
  let (ea, s) := s.ea m
  .next (s.memWrite ea r)

/-- 0x64 STZ $nn (R857). -/
def execStzBp (b : Byte) (s : State) : Result := store s.z (.bp b) s
/-- 0x74 STZ $nn,X (R857). -/
def execStzBpX (b : Byte) (s : State) : Result := store s.z (.bpX b) s
/-- 0x81 STA ($nn,X) (R854). -/
def execStaIndX (b : Byte) (s : State) : Result := store s.a (.indX b) s
/-- 0x82 STA ($nn,SP),Y (R854). -/
def execStaSpY (d : Byte) (s : State) : Result := store s.a (.spY d) s
/-- 0x84 STY $nn (R856). -/
def execStyBp (b : Byte) (s : State) : Result := store s.y (.bp b) s
/-- 0x85 STA $nn (R854). -/
def execStaBp (b : Byte) (s : State) : Result := store s.a (.bp b) s
/-- 0x86 STX $nn (R855). -/
def execStxBp (b : Byte) (s : State) : Result := store s.x (.bp b) s
/-- 0x8B STY $nnnn,X (R856). -/
def execStyAbsX (w : Word) (s : State) : Result := store s.y (.absX w) s
/-- 0x8C STY $nnnn (R856). -/
def execStyAbs (w : Word) (s : State) : Result := store s.y (.abs w) s
/-- 0x8D STA $nnnn (R854). -/
def execStaAbs (w : Word) (s : State) : Result := store s.a (.abs w) s
/-- 0x8E STX $nnnn (R855). -/
def execStxAbs (w : Word) (s : State) : Result := store s.x (.abs w) s
/-- 0x91 STA ($nn),Y (R854). -/
def execStaIndY (b : Byte) (s : State) : Result := store s.a (.indY b) s
/-- 0x92 STA ($nn),Z (R854). -/
def execStaIndZ (b : Byte) (s : State) : Result := store s.a (.indZ b) s
/-- 0x94 STY $nn,X (R856). -/
def execStyBpX (b : Byte) (s : State) : Result := store s.y (.bpX b) s
/-- 0x95 STA $nn,X (R854). -/
def execStaBpX (b : Byte) (s : State) : Result := store s.a (.bpX b) s
/-- 0x96 STX $nn,Y (R855). -/
def execStxBpY (b : Byte) (s : State) : Result := store s.x (.bpY b) s
/-- 0x99 STA $nnnn,Y (R854). -/
def execStaAbsY (w : Word) (s : State) : Result := store s.a (.absY w) s
/-- 0x9B STX $nnnn,Y (R855). -/
def execStxAbsY (w : Word) (s : State) : Result := store s.x (.absY w) s
/-- 0x9C STZ $nnnn (R857). -/
def execStzAbs (w : Word) (s : State) : Result := store s.z (.abs w) s
/-- 0x9D STA $nnnn,X (R854). -/
def execStaAbsX (w : Word) (s : State) : Result := store s.a (.absX w) s
/-- 0x9E STZ $nnnn,X (R857). -/
def execStzAbsX (w : Word) (s : State) : Result := store s.z (.absX w) s
/-- 0xA0 LDY #$nn (R852). -/
def execLdyImm (v : Byte) (s : State) : Result := load State.setY (.imm v) s
/-- 0xA1 LDA ($nn,X) (R850). -/
def execLdaIndX (b : Byte) (s : State) : Result := load State.setA (.mem (.indX b)) s
/-- 0xA2 LDX #$nn (R851). -/
def execLdxImm (v : Byte) (s : State) : Result := load State.setX (.imm v) s
/-- 0xA3 LDZ #$nn (R853). -/
def execLdzImm (v : Byte) (s : State) : Result := load State.setZ (.imm v) s
/-- 0xA4 LDY $nn (R852). -/
def execLdyBp (b : Byte) (s : State) : Result := load State.setY (.mem (.bp b)) s
/-- 0xA5 LDA $nn (R850). -/
def execLdaBp (b : Byte) (s : State) : Result := load State.setA (.mem (.bp b)) s
/-- 0xA6 LDX $nn (R851). -/
def execLdxBp (b : Byte) (s : State) : Result := load State.setX (.mem (.bp b)) s
/-- 0xA9 LDA #$nn (R850). -/
def execLdaImm (v : Byte) (s : State) : Result := load State.setA (.imm v) s
/-- 0xAB LDZ $nnnn (R853). -/
def execLdzAbs (w : Word) (s : State) : Result := load State.setZ (.mem (.abs w)) s
/-- 0xAC LDY $nnnn (R852). -/
def execLdyAbs (w : Word) (s : State) : Result := load State.setY (.mem (.abs w)) s
/-- 0xAD LDA $nnnn (R850). -/
def execLdaAbs (w : Word) (s : State) : Result := load State.setA (.mem (.abs w)) s
/-- 0xAE LDX $nnnn (R851). -/
def execLdxAbs (w : Word) (s : State) : Result := load State.setX (.mem (.abs w)) s
/-- 0xB1 LDA ($nn),Y (R850). -/
def execLdaIndY (b : Byte) (s : State) : Result := load State.setA (.mem (.indY b)) s
/-- 0xB2 LDA ($nn),Z (R850). -/
def execLdaIndZ (b : Byte) (s : State) : Result := load State.setA (.mem (.indZ b)) s
/-- 0xB4 LDY $nn,X (R852). -/
def execLdyBpX (b : Byte) (s : State) : Result := load State.setY (.mem (.bpX b)) s
/-- 0xB5 LDA $nn,X (R850). -/
def execLdaBpX (b : Byte) (s : State) : Result := load State.setA (.mem (.bpX b)) s
/-- 0xB6 LDX $nn,Y (R851). -/
def execLdxBpY (b : Byte) (s : State) : Result := load State.setX (.mem (.bpY b)) s
/-- 0xB9 LDA $nnnn,Y (R850). -/
def execLdaAbsY (w : Word) (s : State) : Result := load State.setA (.mem (.absY w)) s
/-- 0xBB LDZ $nnnn,X (R853). -/
def execLdzAbsX (w : Word) (s : State) : Result := load State.setZ (.mem (.absX w)) s
/-- 0xBC LDY $nnnn,X (R852). -/
def execLdyAbsX (w : Word) (s : State) : Result := load State.setY (.mem (.absX w)) s
/-- 0xBD LDA $nnnn,X (R850). -/
def execLdaAbsX (w : Word) (s : State) : Result := load State.setA (.mem (.absX w)) s
/-- 0xBE LDX $nnnn,Y (R851). -/
def execLdxAbsY (w : Word) (s : State) : Result := load State.setX (.mem (.absY w)) s
/-- 0xE2 LDA ($nn,SP),Y (R850). -/
def execLdaSpY (d : Byte) (s : State) : Result := load State.setA (.mem (.spY d)) s

end Sys2Proof.Machine
end

