-- ==== Sys2Proof/Machine/Logical.lean ====
section
/-! DEFINITION. Logical instructions (41_logical). -/

namespace Sys2Proof.Machine

/-- A logical operation of A and an operand, N and Z from the result (R450 to R452). -/
def logical (f : Byte → Byte → Byte) (src : Source) (s : State) : Result :=
  let (v, s) := s.load src
  let r := f s.a v
  .next ((s.setA r).setNZ8 r)

/-- ORA (R450). -/
def ora (src : Source) (s : State) : Result := logical (· ||| ·) src s
/-- AND (R451). -/
def andA (src : Source) (s : State) : Result := logical (· &&& ·) src s
/-- EOR (R452). -/
def eor (src : Source) (s : State) : Result := logical (· ^^^ ·) src s

/-- BIT in a memory mode (R453): Z from `A AND M`, N and V from bits 7 and 6 of M. -/
def bitMemory (m : AddrMode) (s : State) : Result :=
  let (v, s) := s.load (.mem m)
  .next (((s.setFlag .z ((s.a &&& v) == 0#8)).setFlag .n (v.getLsbD 7)).setFlag .v (v.getLsbD 6))

/-- BIT # (R454): Z only, unless `BIT_IMM_NV`. -/
def bitImmediate (v : Byte) (s : State) : Result :=
  let s := s.advance 1
  let s := s.setFlag .z ((s.a &&& v) == 0#8)
  if s.cfg.bitImmNV then .next ((s.setFlag .n (v.getLsbD 7)).setFlag .v (v.getLsbD 6)) else .next s

/-- TSB (R455): Z from the value written. -/
def tsb (m : AddrMode) (s : State) : Result :=
  .next (s.rmw (.mem m) fun v s => (s.a ||| v, s.setFlag .z ((s.a ||| v) == 0#8)))

/-- TRB (R456): Z from the value written. -/
def trb (m : AddrMode) (s : State) : Result :=
  .next (s.rmw (.mem m) fun v s => (~~~s.a &&& v, s.setFlag .z ((~~~s.a &&& v) == 0#8)))

/-- 0x01 ORA ($nn,X) (R450). -/
def execOraIndX (b : Byte) (s : State) : Result := ora (.mem (.indX b)) s
/-- 0x04 TSB $nn (R455). -/
def execTsbBp (b : Byte) (s : State) : Result := tsb (.bp b) s
/-- 0x05 ORA $nn (R450). -/
def execOraBp (b : Byte) (s : State) : Result := ora (.mem (.bp b)) s
/-- 0x09 ORA #$nn (R450). -/
def execOraImm (v : Byte) (s : State) : Result := ora (.imm v) s
/-- 0x0C TSB $nnnn (R455). -/
def execTsbAbs (w : Word) (s : State) : Result := tsb (.abs w) s
/-- 0x0D ORA $nnnn (R450). -/
def execOraAbs (w : Word) (s : State) : Result := ora (.mem (.abs w)) s
/-- 0x11 ORA ($nn),Y (R450). -/
def execOraIndY (b : Byte) (s : State) : Result := ora (.mem (.indY b)) s
/-- 0x12 ORA ($nn),Z (R450). -/
def execOraIndZ (b : Byte) (s : State) : Result := ora (.mem (.indZ b)) s
/-- 0x14 TRB $nn (R456). -/
def execTrbBp (b : Byte) (s : State) : Result := trb (.bp b) s
/-- 0x15 ORA $nn,X (R450). -/
def execOraBpX (b : Byte) (s : State) : Result := ora (.mem (.bpX b)) s
/-- 0x19 ORA $nnnn,Y (R450). -/
def execOraAbsY (w : Word) (s : State) : Result := ora (.mem (.absY w)) s
/-- 0x1C TRB $nnnn (R456). -/
def execTrbAbs (w : Word) (s : State) : Result := trb (.abs w) s
/-- 0x1D ORA $nnnn,X (R450). -/
def execOraAbsX (w : Word) (s : State) : Result := ora (.mem (.absX w)) s
/-- 0x21 AND ($nn,X) (R451). -/
def execAndIndX (b : Byte) (s : State) : Result := andA (.mem (.indX b)) s
/-- 0x24 BIT $nn (R453). -/
def execBitBp (b : Byte) (s : State) : Result := bitMemory (.bp b) s
/-- 0x25 AND $nn (R451). -/
def execAndBp (b : Byte) (s : State) : Result := andA (.mem (.bp b)) s
/-- 0x29 AND #$nn (R451). -/
def execAndImm (v : Byte) (s : State) : Result := andA (.imm v) s
/-- 0x2C BIT $nnnn (R453). -/
def execBitAbs (w : Word) (s : State) : Result := bitMemory (.abs w) s
/-- 0x2D AND $nnnn (R451). -/
def execAndAbs (w : Word) (s : State) : Result := andA (.mem (.abs w)) s
/-- 0x31 AND ($nn),Y (R451). -/
def execAndIndY (b : Byte) (s : State) : Result := andA (.mem (.indY b)) s
/-- 0x32 AND ($nn),Z (R451). -/
def execAndIndZ (b : Byte) (s : State) : Result := andA (.mem (.indZ b)) s
/-- 0x34 BIT $nn,X (R453). -/
def execBitBpX (b : Byte) (s : State) : Result := bitMemory (.bpX b) s
/-- 0x35 AND $nn,X (R451). -/
def execAndBpX (b : Byte) (s : State) : Result := andA (.mem (.bpX b)) s
/-- 0x39 AND $nnnn,Y (R451). -/
def execAndAbsY (w : Word) (s : State) : Result := andA (.mem (.absY w)) s
/-- 0x3C BIT $nnnn,X (R453). -/
def execBitAbsX (w : Word) (s : State) : Result := bitMemory (.absX w) s
/-- 0x3D AND $nnnn,X (R451). -/
def execAndAbsX (w : Word) (s : State) : Result := andA (.mem (.absX w)) s
/-- 0x41 EOR ($nn,X) (R452). -/
def execEorIndX (b : Byte) (s : State) : Result := eor (.mem (.indX b)) s
/-- 0x45 EOR $nn (R452). -/
def execEorBp (b : Byte) (s : State) : Result := eor (.mem (.bp b)) s
/-- 0x49 EOR #$nn (R452). -/
def execEorImm (v : Byte) (s : State) : Result := eor (.imm v) s
/-- 0x4D EOR $nnnn (R452). -/
def execEorAbs (w : Word) (s : State) : Result := eor (.mem (.abs w)) s
/-- 0x51 EOR ($nn),Y (R452). -/
def execEorIndY (b : Byte) (s : State) : Result := eor (.mem (.indY b)) s
/-- 0x52 EOR ($nn),Z (R452). -/
def execEorIndZ (b : Byte) (s : State) : Result := eor (.mem (.indZ b)) s
/-- 0x55 EOR $nn,X (R452). -/
def execEorBpX (b : Byte) (s : State) : Result := eor (.mem (.bpX b)) s
/-- 0x59 EOR $nnnn,Y (R452). -/
def execEorAbsY (w : Word) (s : State) : Result := eor (.mem (.absY w)) s
/-- 0x5D EOR $nnnn,X (R452). -/
def execEorAbsX (w : Word) (s : State) : Result := eor (.mem (.absX w)) s
/-- 0x89 BIT #$nn (R454). -/
def execBitImm (v : Byte) (s : State) : Result := bitImmediate v s

end Sys2Proof.Machine
end

