-- ==== Sys2Proof/Machine/Shift.lean ====
section
/-! DEFINITION. Shift and rotate instructions (42_shift_rotate). -/

namespace Sys2Proof.Machine

/-- A one-bit shift of A or memory: C, then N and Z from the result (R500 to R504). -/
def shift (f : Byte → Bool → ShiftOut) (place : Place) (s : State) : Result :=
  .next (s.rmw place fun v s =>
    let o := f v (s.flag .c)
    (o.value, (s.setFlag .c o.carry).setNZ8 o.value))

/-- ASL (R500). -/
def asl (place : Place) (s : State) : Result := shift aslByte place s
/-- LSR (R501). -/
def lsr (place : Place) (s : State) : Result := shift lsrByte place s
/-- ROL (R502). -/
def rol (place : Place) (s : State) : Result := shift rolByte place s
/-- ROR (R503). -/
def ror (place : Place) (s : State) : Result := shift rorByte place s
/-- ASR (R504). -/
def asr (place : Place) (s : State) : Result := shift asrByte place s

/-- A one-bit left shift of the word at an absolute address, `low` entering at bit 0: C from bit 15 (R505, R506). -/
def shiftWordLeft (low : Bool) (w : Word) (s : State) : Result :=
  let (ea, s) := s.ea (.abs w)
  let (v, s) := s.mem16 ea
  let s := s.setFlag .c v.msb
  let r := (v <<< 1) ||| (BitVec.ofBool low).setWidth 16
  .next ((s.memWrite16 ea r).setNZ16 r)

/-- ASW (R505). -/
def asw (w : Word) (s : State) : Result := shiftWordLeft false w s
/-- ROW (R506). -/
def row (w : Word) (s : State) : Result := shiftWordLeft (s.flag .c) w s

/-- 0x06 ASL $nn (R500). -/
def execAslBp (b : Byte) (s : State) : Result := asl (.mem (.bp b)) s
/-- 0x0A ASL A (R500). -/
def execAslA (s : State) : Result := asl .acc s
/-- 0x0E ASL $nnnn (R500). -/
def execAslAbs (w : Word) (s : State) : Result := asl (.mem (.abs w)) s
/-- 0x16 ASL $nn,X (R500). -/
def execAslBpX (b : Byte) (s : State) : Result := asl (.mem (.bpX b)) s
/-- 0x1E ASL $nnnn,X (R500). -/
def execAslAbsX (w : Word) (s : State) : Result := asl (.mem (.absX w)) s
/-- 0x26 ROL $nn (R502). -/
def execRolBp (b : Byte) (s : State) : Result := rol (.mem (.bp b)) s
/-- 0x2A ROL A (R502). -/
def execRolA (s : State) : Result := rol .acc s
/-- 0x2E ROL $nnnn (R502). -/
def execRolAbs (w : Word) (s : State) : Result := rol (.mem (.abs w)) s
/-- 0x36 ROL $nn,X (R502). -/
def execRolBpX (b : Byte) (s : State) : Result := rol (.mem (.bpX b)) s
/-- 0x3E ROL $nnnn,X (R502). -/
def execRolAbsX (w : Word) (s : State) : Result := rol (.mem (.absX w)) s
/-- 0x43 ASR A (R504). -/
def execAsrA (s : State) : Result := asr .acc s
/-- 0x44 ASR $nn (R504). -/
def execAsrBp (b : Byte) (s : State) : Result := asr (.mem (.bp b)) s
/-- 0x46 LSR $nn (R501). -/
def execLsrBp (b : Byte) (s : State) : Result := lsr (.mem (.bp b)) s
/-- 0x4A LSR A (R501). -/
def execLsrA (s : State) : Result := lsr .acc s
/-- 0x4E LSR $nnnn (R501). -/
def execLsrAbs (w : Word) (s : State) : Result := lsr (.mem (.abs w)) s
/-- 0x54 ASR $nn,X (R504). -/
def execAsrBpX (b : Byte) (s : State) : Result := asr (.mem (.bpX b)) s
/-- 0x56 LSR $nn,X (R501). -/
def execLsrBpX (b : Byte) (s : State) : Result := lsr (.mem (.bpX b)) s
/-- 0x5E LSR $nnnn,X (R501). -/
def execLsrAbsX (w : Word) (s : State) : Result := lsr (.mem (.absX w)) s
/-- 0x66 ROR $nn (R503). -/
def execRorBp (b : Byte) (s : State) : Result := ror (.mem (.bp b)) s
/-- 0x6A ROR A (R503). -/
def execRorA (s : State) : Result := ror .acc s
/-- 0x6E ROR $nnnn (R503). -/
def execRorAbs (w : Word) (s : State) : Result := ror (.mem (.abs w)) s
/-- 0x76 ROR $nn,X (R503). -/
def execRorBpX (b : Byte) (s : State) : Result := ror (.mem (.bpX b)) s
/-- 0x7E ROR $nnnn,X (R503). -/
def execRorAbsX (w : Word) (s : State) : Result := ror (.mem (.absX w)) s
/-- 0xCB ASW $nnnn (R505). -/
def execAsw (w : Word) (s : State) : Result := asw w s
/-- 0xEB ROW $nnnn (R506). -/
def execRow (w : Word) (s : State) : Result := row w s

end Sys2Proof.Machine
end

