-- ==== Sys2Proof/Machine/Stack.lean ====
section
/-! DEFINITION. Stack instructions (44_stack). -/

namespace Sys2Proof.Machine

/-- `Push(v)` as an instruction (R600 to R604). -/
def pushByte (v : Byte) (s : State) : Result := finish (s.push v)

/-- PHW # (R605): the immediate word, high byte first. -/
def pushImmediateWord (w : Word) (s : State) : Result := finish ((s.advance 2).push16 w)

/-- PHW abs (R606): the word is read, low byte first, before it is pushed, high byte first. -/
def pushMemoryWord (w : Word) (s : State) : Result :=
  let (ea, s) := s.ea (.abs w)
  let (v, s) := s.mem16 ea
  finish (s.push16 v)

/-- `r <- Pull(); SetNZ8(r)` (R607, R609 to R611). -/
def pullRegister (set : State → Byte → State) (s : State) : Result :=
  match s.pull with
  | .error t => .next t
  | .ok (v, s) => .next ((set s v).setNZ8 v)

/-- PLP (R608): all eight bits. -/
def pullFlags (s : State) : Result :=
  match s.pull with
  | .error t => .next t
  | .ok (v, s) => .next (s.setP v)

/-- 0x08 PHP (R601). -/
def execPhp (s : State) : Result := pushByte s.p s
/-- 0x28 PLP (R608). -/
def execPlp (s : State) : Result := pullFlags s
/-- 0x48 PHA (R600). -/
def execPha (s : State) : Result := pushByte s.a s
/-- 0x5A PHY (R603). -/
def execPhy (s : State) : Result := pushByte s.y s
/-- 0x68 PLA (R607). -/
def execPla (s : State) : Result := pullRegister State.setA s
/-- 0x7A PLY (R610). -/
def execPly (s : State) : Result := pullRegister State.setY s
/-- 0xDA PHX (R602). -/
def execPhx (s : State) : Result := pushByte s.x s
/-- 0xDB PHZ (R604). -/
def execPhz (s : State) : Result := pushByte s.z s
/-- 0xF4 PHW #$nnnn (R605). -/
def execPhwImm (w : Word) (s : State) : Result := pushImmediateWord w s
/-- 0xFA PLX (R609). -/
def execPlx (s : State) : Result := pullRegister State.setX s
/-- 0xFB PLZ (R611). -/
def execPlz (s : State) : Result := pullRegister State.setZ s
/-- 0xFC PHW $nnnn (R606). -/
def execPhwAbs (w : Word) (s : State) : Result := pushMemoryWord w s

end Sys2Proof.Machine
end

