-- ==== Sys2Proof/Machine/System.lean ====
section
/-! DEFINITION. Flag, break and no-operation instructions (48_flags_and_system). -/

namespace Sys2Proof.Machine

/-- BRK (R810): one byte skipped unread, B set, a diagnostic with the opcode's own address. It does not trap. -/
def brk (s : State) : Result :=
  .next (((s.advance 1).setFlag .b true).emit .break_ 0x00#8 (s.pc - 1#16))

/-- 0x00 BRK (R810). -/
def execBrk (s : State) : Result := brk s
/-- 0x02 CLE (R807). -/
def execCle (s : State) : Result := .next (s.setFlag .e false)
/-- 0x03 SEE (R808). -/
def execSee (s : State) : Result := .next (s.setFlag .e true)
/-- 0x18 CLC (R800). -/
def execClc (s : State) : Result := .next (s.setFlag .c false)
/-- 0x38 SEC (R801). -/
def execSec (s : State) : Result := .next (s.setFlag .c true)
/-- 0x58 CLI (R802). -/
def execCli (s : State) : Result := .next (s.setFlag .i false)
/-- 0x5C AUG (R812). -/
def execAug (s : State) : Result := .next (s.advance 3)
/-- 0x78 SEI (R803). -/
def execSei (s : State) : Result := .next (s.setFlag .i true)
/-- 0xB8 CLV (R806). -/
def execClv (s : State) : Result := .next (s.setFlag .v false)
/-- 0xD8 CLD (R804). -/
def execCld (s : State) : Result := .next (s.setFlag .d false)
/-- 0xEA NOP (R811). -/
def execNop (s : State) : Result := .next s
/-- 0xF8 SED (R805). -/
def execSed (s : State) : Result := .next (s.setFlag .d true)

end Sys2Proof.Machine
end

