-- ==== Sys2Proof/Machine/Dispatch.lean ====
section
/-! DEFINITION. Which meaning each instruction has: one arm per row of spec/opcode_table.json (R402). -/

namespace Sys2Proof.Machine

def exec (i : Instr) (s : State) : Host.Outcome State Fault Refusal :=
  match i with
  | .brk => Sys2Proof.Machine.execBrk s
  | .oraIndX b => Sys2Proof.Machine.execOraIndX b s
  | .cle => Sys2Proof.Machine.execCle s
  | .see => Sys2Proof.Machine.execSee s
  | .tsbBp b => Sys2Proof.Machine.execTsbBp b s
  | .oraBp b => Sys2Proof.Machine.execOraBp b s
  | .aslBp b => Sys2Proof.Machine.execAslBp b s
  | .rmb0 b => Sys2Proof.Machine.execRmb0 b s
  | .php => Sys2Proof.Machine.execPhp s
  | .oraImm v => Sys2Proof.Machine.execOraImm v s
  | .aslA => Sys2Proof.Machine.execAslA s
  | .tsy => Sys2Proof.Machine.execTsy s
  | .tsbAbs w => Sys2Proof.Machine.execTsbAbs w s
  | .oraAbs w => Sys2Proof.Machine.execOraAbs w s
  | .aslAbs w => Sys2Proof.Machine.execAslAbs w s
  | .bbr0 b d => Sys2Proof.Machine.execBbr0 b d s
  | .bplRel d => Sys2Proof.Machine.execBplRel d s
  | .oraIndY b => Sys2Proof.Machine.execOraIndY b s
  | .oraIndZ b => Sys2Proof.Machine.execOraIndZ b s
  | .bplWord d => Sys2Proof.Machine.execBplWord d s
  | .trbBp b => Sys2Proof.Machine.execTrbBp b s
  | .oraBpX b => Sys2Proof.Machine.execOraBpX b s
  | .aslBpX b => Sys2Proof.Machine.execAslBpX b s
  | .rmb1 b => Sys2Proof.Machine.execRmb1 b s
  | .clc => Sys2Proof.Machine.execClc s
  | .oraAbsY w => Sys2Proof.Machine.execOraAbsY w s
  | .incA => Sys2Proof.Machine.execIncA s
  | .inz => Sys2Proof.Machine.execInz s
  | .trbAbs w => Sys2Proof.Machine.execTrbAbs w s
  | .oraAbsX w => Sys2Proof.Machine.execOraAbsX w s
  | .aslAbsX w => Sys2Proof.Machine.execAslAbsX w s
  | .bbr1 b d => Sys2Proof.Machine.execBbr1 b d s
  | .jsrAbs w => Sys2Proof.Machine.execJsrAbs w s
  | .andIndX b => Sys2Proof.Machine.execAndIndX b s
  | .jsrInd w => Sys2Proof.Machine.execJsrInd w s
  | .jsrIndX w => Sys2Proof.Machine.execJsrIndX w s
  | .bitBp b => Sys2Proof.Machine.execBitBp b s
  | .andBp b => Sys2Proof.Machine.execAndBp b s
  | .rolBp b => Sys2Proof.Machine.execRolBp b s
  | .rmb2 b => Sys2Proof.Machine.execRmb2 b s
  | .plp => Sys2Proof.Machine.execPlp s
  | .andImm v => Sys2Proof.Machine.execAndImm v s
  | .rolA => Sys2Proof.Machine.execRolA s
  | .tys => Sys2Proof.Machine.execTys s
  | .bitAbs w => Sys2Proof.Machine.execBitAbs w s
  | .andAbs w => Sys2Proof.Machine.execAndAbs w s
  | .rolAbs w => Sys2Proof.Machine.execRolAbs w s
  | .bbr2 b d => Sys2Proof.Machine.execBbr2 b d s
  | .bmiRel d => Sys2Proof.Machine.execBmiRel d s
  | .andIndY b => Sys2Proof.Machine.execAndIndY b s
  | .andIndZ b => Sys2Proof.Machine.execAndIndZ b s
  | .bmiWord d => Sys2Proof.Machine.execBmiWord d s
  | .bitBpX b => Sys2Proof.Machine.execBitBpX b s
  | .andBpX b => Sys2Proof.Machine.execAndBpX b s
  | .rolBpX b => Sys2Proof.Machine.execRolBpX b s
  | .rmb3 b => Sys2Proof.Machine.execRmb3 b s
  | .sec => Sys2Proof.Machine.execSec s
  | .andAbsY w => Sys2Proof.Machine.execAndAbsY w s
  | .decA => Sys2Proof.Machine.execDecA s
  | .dez => Sys2Proof.Machine.execDez s
  | .bitAbsX w => Sys2Proof.Machine.execBitAbsX w s
  | .andAbsX w => Sys2Proof.Machine.execAndAbsX w s
  | .rolAbsX w => Sys2Proof.Machine.execRolAbsX w s
  | .bbr3 b d => Sys2Proof.Machine.execBbr3 b d s
  | .rti => Sys2Proof.Machine.execRti s
  | .eorIndX b => Sys2Proof.Machine.execEorIndX b s
  | .neg => Sys2Proof.Machine.execNeg s
  | .asrA => Sys2Proof.Machine.execAsrA s
  | .asrBp b => Sys2Proof.Machine.execAsrBp b s
  | .eorBp b => Sys2Proof.Machine.execEorBp b s
  | .lsrBp b => Sys2Proof.Machine.execLsrBp b s
  | .rmb4 b => Sys2Proof.Machine.execRmb4 b s
  | .pha => Sys2Proof.Machine.execPha s
  | .eorImm v => Sys2Proof.Machine.execEorImm v s
  | .lsrA => Sys2Proof.Machine.execLsrA s
  | .taz => Sys2Proof.Machine.execTaz s
  | .jmpAbs w => Sys2Proof.Machine.execJmpAbs w s
  | .eorAbs w => Sys2Proof.Machine.execEorAbs w s
  | .lsrAbs w => Sys2Proof.Machine.execLsrAbs w s
  | .bbr4 b d => Sys2Proof.Machine.execBbr4 b d s
  | .bvcRel d => Sys2Proof.Machine.execBvcRel d s
  | .eorIndY b => Sys2Proof.Machine.execEorIndY b s
  | .eorIndZ b => Sys2Proof.Machine.execEorIndZ b s
  | .bvcWord d => Sys2Proof.Machine.execBvcWord d s
  | .asrBpX b => Sys2Proof.Machine.execAsrBpX b s
  | .eorBpX b => Sys2Proof.Machine.execEorBpX b s
  | .lsrBpX b => Sys2Proof.Machine.execLsrBpX b s
  | .rmb5 b => Sys2Proof.Machine.execRmb5 b s
  | .cli => Sys2Proof.Machine.execCli s
  | .eorAbsY w => Sys2Proof.Machine.execEorAbsY w s
  | .phy => Sys2Proof.Machine.execPhy s
  | .tab => Sys2Proof.Machine.execTab s
  | .aug => Sys2Proof.Machine.execAug s
  | .eorAbsX w => Sys2Proof.Machine.execEorAbsX w s
  | .lsrAbsX w => Sys2Proof.Machine.execLsrAbsX w s
  | .bbr5 b d => Sys2Proof.Machine.execBbr5 b d s
  | .rts => Sys2Proof.Machine.execRts s
  | .adcIndX b => Sys2Proof.Machine.execAdcIndX b s
  | .rtn v => Sys2Proof.Machine.execRtn v s
  | .bsr d => Sys2Proof.Machine.execBsr d s
  | .stzBp b => Sys2Proof.Machine.execStzBp b s
  | .adcBp b => Sys2Proof.Machine.execAdcBp b s
  | .rorBp b => Sys2Proof.Machine.execRorBp b s
  | .rmb6 b => Sys2Proof.Machine.execRmb6 b s
  | .pla => Sys2Proof.Machine.execPla s
  | .adcImm v => Sys2Proof.Machine.execAdcImm v s
  | .rorA => Sys2Proof.Machine.execRorA s
  | .tza => Sys2Proof.Machine.execTza s
  | .jmpInd w => Sys2Proof.Machine.execJmpInd w s
  | .adcAbs w => Sys2Proof.Machine.execAdcAbs w s
  | .rorAbs w => Sys2Proof.Machine.execRorAbs w s
  | .bbr6 b d => Sys2Proof.Machine.execBbr6 b d s
  | .bvsRel d => Sys2Proof.Machine.execBvsRel d s
  | .adcIndY b => Sys2Proof.Machine.execAdcIndY b s
  | .adcIndZ b => Sys2Proof.Machine.execAdcIndZ b s
  | .bvsWord d => Sys2Proof.Machine.execBvsWord d s
  | .stzBpX b => Sys2Proof.Machine.execStzBpX b s
  | .adcBpX b => Sys2Proof.Machine.execAdcBpX b s
  | .rorBpX b => Sys2Proof.Machine.execRorBpX b s
  | .rmb7 b => Sys2Proof.Machine.execRmb7 b s
  | .sei => Sys2Proof.Machine.execSei s
  | .adcAbsY w => Sys2Proof.Machine.execAdcAbsY w s
  | .ply => Sys2Proof.Machine.execPly s
  | .tba => Sys2Proof.Machine.execTba s
  | .jmpIndX w => Sys2Proof.Machine.execJmpIndX w s
  | .adcAbsX w => Sys2Proof.Machine.execAdcAbsX w s
  | .rorAbsX w => Sys2Proof.Machine.execRorAbsX w s
  | .bbr7 b d => Sys2Proof.Machine.execBbr7 b d s
  | .bruRel d => Sys2Proof.Machine.execBruRel d s
  | .staIndX b => Sys2Proof.Machine.execStaIndX b s
  | .staSpY d => Sys2Proof.Machine.execStaSpY d s
  | .bruWord d => Sys2Proof.Machine.execBruWord d s
  | .styBp b => Sys2Proof.Machine.execStyBp b s
  | .staBp b => Sys2Proof.Machine.execStaBp b s
  | .stxBp b => Sys2Proof.Machine.execStxBp b s
  | .smb0 b => Sys2Proof.Machine.execSmb0 b s
  | .dey => Sys2Proof.Machine.execDey s
  | .bitImm v => Sys2Proof.Machine.execBitImm v s
  | .txa => Sys2Proof.Machine.execTxa s
  | .styAbsX w => Sys2Proof.Machine.execStyAbsX w s
  | .styAbs w => Sys2Proof.Machine.execStyAbs w s
  | .staAbs w => Sys2Proof.Machine.execStaAbs w s
  | .stxAbs w => Sys2Proof.Machine.execStxAbs w s
  | .bbs0 b d => Sys2Proof.Machine.execBbs0 b d s
  | .bccRel d => Sys2Proof.Machine.execBccRel d s
  | .staIndY b => Sys2Proof.Machine.execStaIndY b s
  | .staIndZ b => Sys2Proof.Machine.execStaIndZ b s
  | .bccWord d => Sys2Proof.Machine.execBccWord d s
  | .styBpX b => Sys2Proof.Machine.execStyBpX b s
  | .staBpX b => Sys2Proof.Machine.execStaBpX b s
  | .stxBpY b => Sys2Proof.Machine.execStxBpY b s
  | .smb1 b => Sys2Proof.Machine.execSmb1 b s
  | .tya => Sys2Proof.Machine.execTya s
  | .staAbsY w => Sys2Proof.Machine.execStaAbsY w s
  | .txs => Sys2Proof.Machine.execTxs s
  | .stxAbsY w => Sys2Proof.Machine.execStxAbsY w s
  | .stzAbs w => Sys2Proof.Machine.execStzAbs w s
  | .staAbsX w => Sys2Proof.Machine.execStaAbsX w s
  | .stzAbsX w => Sys2Proof.Machine.execStzAbsX w s
  | .bbs1 b d => Sys2Proof.Machine.execBbs1 b d s
  | .ldyImm v => Sys2Proof.Machine.execLdyImm v s
  | .ldaIndX b => Sys2Proof.Machine.execLdaIndX b s
  | .ldxImm v => Sys2Proof.Machine.execLdxImm v s
  | .ldzImm v => Sys2Proof.Machine.execLdzImm v s
  | .ldyBp b => Sys2Proof.Machine.execLdyBp b s
  | .ldaBp b => Sys2Proof.Machine.execLdaBp b s
  | .ldxBp b => Sys2Proof.Machine.execLdxBp b s
  | .smb2 b => Sys2Proof.Machine.execSmb2 b s
  | .tay => Sys2Proof.Machine.execTay s
  | .ldaImm v => Sys2Proof.Machine.execLdaImm v s
  | .tax => Sys2Proof.Machine.execTax s
  | .ldzAbs w => Sys2Proof.Machine.execLdzAbs w s
  | .ldyAbs w => Sys2Proof.Machine.execLdyAbs w s
  | .ldaAbs w => Sys2Proof.Machine.execLdaAbs w s
  | .ldxAbs w => Sys2Proof.Machine.execLdxAbs w s
  | .bbs2 b d => Sys2Proof.Machine.execBbs2 b d s
  | .bcsRel d => Sys2Proof.Machine.execBcsRel d s
  | .ldaIndY b => Sys2Proof.Machine.execLdaIndY b s
  | .ldaIndZ b => Sys2Proof.Machine.execLdaIndZ b s
  | .bcsWord d => Sys2Proof.Machine.execBcsWord d s
  | .ldyBpX b => Sys2Proof.Machine.execLdyBpX b s
  | .ldaBpX b => Sys2Proof.Machine.execLdaBpX b s
  | .ldxBpY b => Sys2Proof.Machine.execLdxBpY b s
  | .smb3 b => Sys2Proof.Machine.execSmb3 b s
  | .clv => Sys2Proof.Machine.execClv s
  | .ldaAbsY w => Sys2Proof.Machine.execLdaAbsY w s
  | .tsx => Sys2Proof.Machine.execTsx s
  | .ldzAbsX w => Sys2Proof.Machine.execLdzAbsX w s
  | .ldyAbsX w => Sys2Proof.Machine.execLdyAbsX w s
  | .ldaAbsX w => Sys2Proof.Machine.execLdaAbsX w s
  | .ldxAbsY w => Sys2Proof.Machine.execLdxAbsY w s
  | .bbs3 b d => Sys2Proof.Machine.execBbs3 b d s
  | .cpyImm v => Sys2Proof.Machine.execCpyImm v s
  | .cmpIndX b => Sys2Proof.Machine.execCmpIndX b s
  | .cpzImm v => Sys2Proof.Machine.execCpzImm v s
  | .dew b => Sys2Proof.Machine.execDew b s
  | .cpyBp b => Sys2Proof.Machine.execCpyBp b s
  | .cmpBp b => Sys2Proof.Machine.execCmpBp b s
  | .decBp b => Sys2Proof.Machine.execDecBp b s
  | .smb4 b => Sys2Proof.Machine.execSmb4 b s
  | .iny => Sys2Proof.Machine.execIny s
  | .cmpImm v => Sys2Proof.Machine.execCmpImm v s
  | .dex => Sys2Proof.Machine.execDex s
  | .asw w => Sys2Proof.Machine.execAsw w s
  | .cpyAbs w => Sys2Proof.Machine.execCpyAbs w s
  | .cmpAbs w => Sys2Proof.Machine.execCmpAbs w s
  | .decAbs w => Sys2Proof.Machine.execDecAbs w s
  | .bbs4 b d => Sys2Proof.Machine.execBbs4 b d s
  | .bneRel d => Sys2Proof.Machine.execBneRel d s
  | .cmpIndY b => Sys2Proof.Machine.execCmpIndY b s
  | .cmpIndZ b => Sys2Proof.Machine.execCmpIndZ b s
  | .bneWord d => Sys2Proof.Machine.execBneWord d s
  | .cpzBp b => Sys2Proof.Machine.execCpzBp b s
  | .cmpBpX b => Sys2Proof.Machine.execCmpBpX b s
  | .decBpX b => Sys2Proof.Machine.execDecBpX b s
  | .smb5 b => Sys2Proof.Machine.execSmb5 b s
  | .cld => Sys2Proof.Machine.execCld s
  | .cmpAbsY w => Sys2Proof.Machine.execCmpAbsY w s
  | .phx => Sys2Proof.Machine.execPhx s
  | .phz => Sys2Proof.Machine.execPhz s
  | .cpzAbs w => Sys2Proof.Machine.execCpzAbs w s
  | .cmpAbsX w => Sys2Proof.Machine.execCmpAbsX w s
  | .decAbsX w => Sys2Proof.Machine.execDecAbsX w s
  | .bbs5 b d => Sys2Proof.Machine.execBbs5 b d s
  | .cpxImm v => Sys2Proof.Machine.execCpxImm v s
  | .sbcIndX b => Sys2Proof.Machine.execSbcIndX b s
  | .ldaSpY d => Sys2Proof.Machine.execLdaSpY d s
  | .inw b => Sys2Proof.Machine.execInw b s
  | .cpxBp b => Sys2Proof.Machine.execCpxBp b s
  | .sbcBp b => Sys2Proof.Machine.execSbcBp b s
  | .incBp b => Sys2Proof.Machine.execIncBp b s
  | .smb6 b => Sys2Proof.Machine.execSmb6 b s
  | .inx => Sys2Proof.Machine.execInx s
  | .sbcImm v => Sys2Proof.Machine.execSbcImm v s
  | .nop => Sys2Proof.Machine.execNop s
  | .row w => Sys2Proof.Machine.execRow w s
  | .cpxAbs w => Sys2Proof.Machine.execCpxAbs w s
  | .sbcAbs w => Sys2Proof.Machine.execSbcAbs w s
  | .incAbs w => Sys2Proof.Machine.execIncAbs w s
  | .bbs6 b d => Sys2Proof.Machine.execBbs6 b d s
  | .beqRel d => Sys2Proof.Machine.execBeqRel d s
  | .sbcIndY b => Sys2Proof.Machine.execSbcIndY b s
  | .sbcIndZ b => Sys2Proof.Machine.execSbcIndZ b s
  | .beqWord d => Sys2Proof.Machine.execBeqWord d s
  | .phwImm w => Sys2Proof.Machine.execPhwImm w s
  | .sbcBpX b => Sys2Proof.Machine.execSbcBpX b s
  | .incBpX b => Sys2Proof.Machine.execIncBpX b s
  | .smb7 b => Sys2Proof.Machine.execSmb7 b s
  | .sed => Sys2Proof.Machine.execSed s
  | .sbcAbsY w => Sys2Proof.Machine.execSbcAbsY w s
  | .plx => Sys2Proof.Machine.execPlx s
  | .plz => Sys2Proof.Machine.execPlz s
  | .phwAbs w => Sys2Proof.Machine.execPhwAbs w s
  | .sbcAbsX w => Sys2Proof.Machine.execSbcAbsX w s
  | .incAbsX w => Sys2Proof.Machine.execIncAbsX w s
  | .bbs7 b d => Sys2Proof.Machine.execBbs7 b d s

end Sys2Proof.Machine
end

