-- ==== Sys2Proof/Machine/Fetch.lean ====
section
/-! DEFINITION. Fetching an instruction's bytes, and placing them (R401, R402, R407). -/

namespace Sys2Proof.Machine

/-- `FetchByte()` (R15): the byte at PC, PC moved past it. -/
def State.fetchByte (s : State) : Byte × State :=
  let (b, s) := s.memRead s.pc
  (b, s.advance 1)

/-- The instruction of an opcode whose operand bytes are read at PC in address order (R402, R407); skipped bytes are
not read (R207). PC stays at the first operand byte: the meaning consumes them (entry 13). -/
def State.fetchOperands (s : State) (op : Byte) : Instr × State :=
  let row := opcodeRow op
  match row.bytesRead with
  | 0 => (row.build 0#8 0#8, s)
  | 1 =>
    let (b1, s) := s.memRead s.pc
    (row.build b1 0#8, s)
  | _ =>
    let (b1, s) := s.memRead s.pc
    let (b2, s) := s.memRead (s.pc + 1#16)
    (row.build b1 b2, s)

/-- The `n` bytes stored from an address on, modulo 2^16: what a fetch there would read from plain RAM. -/
def State.bytesAt (s : State) (a : Word) : Nat → List Byte
  | 0 => []
  | n + 1 => s.mem.read a.toNat :: s.bytesAt (a + 1#16) n

/-- Bytes stored from an address on, modulo 2^16, by the host: no port operation of a step. -/
def State.storeBytes (s : State) (a : Word) : List Byte → State
  | [] => s
  | v :: rest => State.storeBytes { s with mem := s.mem.write a.toNat v } (a + 1#16) rest

/-- The state with bytes stored where the next step fetches, plain RAM there, a port bound and no stack fault
pending. -/
def State.withFetchBytes (s : State) (bytes : List Byte) : State :=
  let s := s.storeBytes s.pc bytes
  { s with
    io := s.io.filter fun a => (a - s.pc).toNat ≥ bytes.length
    bound := true
    faulted := false }

end Sys2Proof.Machine
end

