-- ==== Sys2Proof/Machine/Step.lean ====
section
/-! DEFINITION. One `step()` (R400 to R404). -/

namespace Sys2Proof.Machine

/-- One step: the preconditions (R403), the opcode fetch and the cost (R401), then the unimplemented-opcode rule
(R404) or the instruction (R402). -/
def step (s : State) : Host.Outcome State Fault Refusal :=
  if s.bound = false then .fault .configFaultNoMemory
  else if s.faulted = true then .fault .stackFaultHalted
  else
    let (op, s) := s.beginStep.fetchByte
    let s := s.charge op
    if s.cfg.implements op then
      let (i, s) := s.fetchOperands op
      exec i s
    else .next (s.unimplemented op)

/-- The state with the table word `w` of `nbits` bits stored where the next step fetches (R301's byte order; every
bit above `nbits` zero), so that the next step runs it (entry 2). -/
def State.withFetchWord (s : State) (nbits w : Nat) : State := s.withFetchBytes (tableBytes nbits w)

end Sys2Proof.Machine
end

