-- ==== Sys2Proof/Machine/Psg.lean ====
section
/-! DEFINITION. The PSG block's six operations (50_psg_channel_engine). -/

namespace Sys2Proof.Machine

/-- Why a PSG call is rejected (R918, R1001). A rejected call changes no state (R1004). -/
inductive InvalidArgument where
  /-- A register address outside 0..15 (R902, R903). -/
  | badAddress
  /-- A register value outside 0..255 (R902). -/
  | badValue
  /-- A clock that is not positive (R905). -/
  | badClock
  /-- A negative sample count (R906, R908). -/
  | badLength
  /-- More samples than the buffer holds (R908). -/
  | bufferTooSmall
deriving DecidableEq, Repr

/-- The value of a channel. -/
def PerChannel.get {α : Type} (p : PerChannel α) : Channel → α
  | .a => p.a
  | .b => p.b
  | .c => p.c

/-- The value of one channel replaced. -/
def PerChannel.set {α : Type} (p : PerChannel α) (ch : Channel) (v : α) : PerChannel α :=
  match ch with
  | .a => { p with a := v }
  | .b => { p with b := v }
  | .c => { p with c := v }

/-! Register access (R902 to R904). -/

/-- The volume and the envelope enable of a channel recomputed from its volume register (R904, R126). -/
def Psg.deriveVolume (p : Psg) (ch : Channel) (r : Byte) : Psg :=
  { p with volume := p.volume.set ch (volumeOf p.cfg r), envEnable := p.envEnable.set ch (envEnableOf r) }

/-- `Recompute(address)` (R904): exactly the derived state of that register, by the formulas of R126. -/
def Psg.recompute (p : Psg) (address : Nat) : Psg :=
  match address with
  | 0 | 1 => { p with toneStep := p.toneStep.set .a (toneStepOf p.cfg p.regs[0] p.regs[1]) }
  | 2 | 3 => { p with toneStep := p.toneStep.set .b (toneStepOf p.cfg p.regs[2] p.regs[3]) }
  | 4 | 5 => { p with toneStep := p.toneStep.set .c (toneStepOf p.cfg p.regs[4] p.regs[5]) }
  | 6 => { p with noiseStep := noiseStepOf p.cfg p.regs[6] p.baseStep }
  | 7 =>
    { p with
      toneGate := ⟨gateOf p.regs[7] 0, gateOf p.regs[7] 1, gateOf p.regs[7] 2⟩
      noiseGate := ⟨gateOf p.regs[7] 3, gateOf p.regs[7] 4, gateOf p.regs[7] 5⟩ }
  | 8 => p.deriveVolume .a p.regs[8]
  | 9 => p.deriveVolume .b p.regs[9]
  | 10 => p.deriveVolume .c p.regs[10]
  | _ => p

/-- `writeRegister(address, value)` (R902): the address is checked before the value (R1008). -/
def Psg.writeRegister (p : Psg) (address value : Int) : Except InvalidArgument Psg :=
  if h : 0 ≤ address ∧ address < 16 then
    if 0 ≤ value ∧ value ≤ 255 then
      .ok (Psg.recompute { p with regs := p.regs.set address.toNat (BitVec.ofInt 8 value) (by omega) } address.toNat)
    else .error .badValue
  else .error .badAddress

/-- `readRegister(address)` (R903): the raw byte last written. -/
def Psg.readRegister (p : Psg) (address : Int) : Except InvalidArgument Byte :=
  if h : 0 ≤ address ∧ address < 16 then .ok (p.regs[address.toNat]'(by omega)) else .error .badAddress

/-! Clock and buffer (R905 to R907). -/

/-- `setClock(hz)` (R905): `clock` and `baseStep` only. -/
def Psg.setClock (p : Psg) (hz : Int) : Except InvalidArgument Psg :=
  if hz ≤ 0 then .error .badClock
  else .ok { p with clock := hz.toNat, baseStep := baseStepOf p.cfg hz.toNat }

/-- `setBufferLength(n)` (R906): n slots, each 0. -/
def Psg.setBufferLength (p : Psg) (n : Int) : Except InvalidArgument Psg :=
  if n < 0 then .error .badLength
  else .ok { p with bufferLength := n.toNat, buffer := List.replicate n.toNat 0#16 }

/-- `getBuffer()` (R907): the slot values, slot 0 first. -/
def Psg.getBuffer (p : Psg) : List Sample := p.buffer

/-! Synthesis (R908 to R914). -/

/-- `NoiseAdvance()` (R909): at most one step of the LFSR. DESIGN CHOICE, entry 21: with `baseStep` 0 and the counter
already past the noise step, R909's pseudocode steps the LFSR, while R905's prose says that a zero base step stops every
counter; the pseudocode is followed. -/
def Psg.noiseAdvance (p : Psg) : Psg :=
  let count := p.noiseCount + p.baseStep
  if count > p.noiseStep then { p with noiseCount := count - p.noiseStep, seed := lfsrNext p.cfg.noiseTap p.seed }
  else { p with noiseCount := count }

/-- `ToneAdvance(ch)` (R910): at most one toggle. DESIGN CHOICE, entry 21: with `baseStep` 0 and the counter already
past the tone step, R910's pseudocode toggles, while its prose says "`baseStep = 0` never toggles"; the pseudocode is
followed. -/
def Psg.toneAdvance (p : Psg) (ch : Channel) : Psg :=
  let count := p.toneCount.get ch + p.baseStep
  if count > p.toneStep.get ch then
    { p with
      toneCount := p.toneCount.set ch (count - p.toneStep.get ch)
      active := p.active.set ch (!p.active.get ch) }
  else { p with toneCount := p.toneCount.set ch count }

/-- `noiseBit = seed[0]` (R912). -/
def Psg.noiseBit (p : Psg) : Bool := p.seed.getLsbD 0

/-- What a channel adds to the sample (R913). -/
def Psg.contribution (p : Psg) (ch : Channel) : Nat :=
  if (p.toneGate.get ch && p.active.get ch) || (p.noiseGate.get ch && p.noiseBit) then p.volume.get ch else 0

/-- `Mix()` (R913): the channels added, with no clamping. The envelope takes no part (R915). -/
def Psg.mix (p : Psg) : Nat := p.contribution .a + p.contribution .b + p.contribution .c

/-- `Sample(s)` stored in both slots of pair `k` (R908, R914). A sum that does not fit a slot is stored as a free
value, the same in both slots (R914; entry 10). -/
def Psg.storePair (p : Psg) (k s : Nat) : Psg :=
  let v : Sample := if s ≤ Config.sampleMax then BitVec.ofNat 16 s else Config.overflowSample p.sampleDraws
  { p with
    buffer := (p.buffer.set (2 * k) v).set (2 * k + 1) v
    sampleDraws := if s ≤ Config.sampleMax then p.sampleDraws else p.sampleDraws + 1 }

/-- The noise generator and the three channels advanced by one pair (R908). -/
def Psg.advanceCounters (p : Psg) : Psg :=
  (((p.noiseAdvance).toneAdvance .a).toneAdvance .b).toneAdvance .c

/-- Sample pair `k` (R908). -/
def Psg.generatePair (p : Psg) (k : Nat) : Psg :=
  let p := p.advanceCounters
  p.storePair k p.mix

/-- Sample pairs `k`, `k + 1`, ..., `n` of them, in order (R908). -/
def Psg.generatePairs (p : Psg) (k : Nat) : Nat → Psg
  | 0 => p
  | n + 1 => Psg.generatePairs (p.generatePair k) (k + 1) n

/-- `generate(sampleCount)` (R908): `floor(n / 2)` pairs. -/
def Psg.generate (p : Psg) (n : Int) : Except InvalidArgument Psg :=
  if n < 0 then .error .badLength
  else if 2 * (n.toNat / 2) > p.bufferLength then .error .bufferTooSmall
  else .ok (p.generatePairs 0 (n.toNat / 2))

end Sys2Proof.Machine
end

