-- ==== Sys2Proof/Machine/HostCalls.lean ====
section
/-! DEFINITION. Everything the host can do to the machine, one call at a time (R119, R400, R900, R1105; entry 15). -/

namespace Sys2Proof.Machine

/-- One call of the host. -/
inductive HostCall where
  /-- `initialize()` (R1100). -/
  | initializeCpu
  /-- `bindMemory(memoryPort)` (R116): a port with these contents and these host-mapped I/O addresses (R203). -/
  | bindMemory (contents : List Host.Cell) (io : List Word)
  /-- `step()` (R401). -/
  | step
  /-- A host write of A (R119). -/
  | writeA (v : Byte)
  /-- A host write of X (R119). -/
  | writeX (v : Byte)
  /-- A host write of Y (R119). -/
  | writeY (v : Byte)
  /-- A host write of Z (R119), a register of the extended variant only (R105). -/
  | writeZ (v : Byte)
  /-- A host write of SP (R119). -/
  | writeSp (v : Byte)
  /-- A host write of P (R119). -/
  | writeP (v : Byte)
  /-- A host write of PC (R119). -/
  | writePc (w : Word)
  /-- A host write of a byte behind the port, between steps (R203, R208, R216). -/
  | writeMemory (a : Word) (v : Byte)
  /-- `writeRegister(address, value)` (R902). -/
  | psgWriteRegister (address value : Int)
  /-- `readRegister(address)` (R903). -/
  | psgReadRegister (address : Int)
  /-- `setClock(hz)` (R905). -/
  | psgSetClock (hz : Int)
  /-- `setBufferLength(n)` (R906). -/
  | psgSetBufferLength (n : Int)
  /-- `getBuffer()` (R907). -/
  | psgGetBuffer
  /-- `generate(n)` (R908). -/
  | psgGenerate (n : Int)
deriving DecidableEq, Repr

/-- What a call returns (R400, R900, R1001). -/
inductive HostReply where
  /-- The call did what it does; for `step()`, `Ok`. -/
  | ok
  /-- The byte `readRegister` read. -/
  | byte (v : Byte)
  /-- The slots `getBuffer` read. -/
  | samples (l : List Sample)
  /-- `StackFault(Overflow)` or `StackFault(Underflow)` (R432). -/
  | stackFault (kind : StackFaultKind)
  /-- The step stopped and changed nothing: `ConfigFault(NoMemory)` or `StackFault(Halted)` (R403). -/
  | stopped (reason : Fault)
  /-- `InvalidArgument(kind)` (R918). -/
  | invalidArgument (kind : InvalidArgument)
  /-- The step's instruction has no meaning in the model; no instruction is without one. -/
  | noMeaning (reason : Refusal)
deriving DecidableEq, Repr

/-- `initialize()` (R1100): registers, CYC and FAULTED. BOUND, DIAG, memory, the configuration and the PSG block stay
(R1101). -/
def State.initialize (s : State) : State :=
  { s with
    a := 0x00#8
    x := 0x00#8
    y := 0x00#8
    z := 0x00#8
    sp := 0x00#8
    p := 0x00#8
    pc := Config.resetPc
    cyc := 0
    faulted := false
    lastResult := .ok
    portOps := [] }

/-- `bindMemory(memoryPort)` (R116): any earlier binding is replaced (entry 18). -/
def State.bindMemory (s : State) (contents : List Host.Cell) (io : List Word) : State :=
  { s with bound := true, mem := Memory.ofCells contents, io := io }

/-- What `step()` returns to the host, and the state after it (R400). -/
def State.stepCall (s : State) : HostReply × State :=
  match Sys2Proof.Machine.step s with
  | .next t =>
    match t.lastResult with
    | .ok => (.ok, t)
    | .stackFault k => (.stackFault k, t)
  | .fault r => (.stopped r, s)
  | .refused r => (.noMeaning r, s)

/-- A PSG operation that replaces the block's state, or is rejected and changes nothing (R918). -/
def State.psgCall (s : State) (r : Except InvalidArgument Psg) : HostReply × State :=
  match r with
  | .ok p => (.ok, { s with psg := p })
  | .error k => (.invalidArgument k, s)

/-- One host call: what it returns, and the state after it. -/
def hostCall (call : HostCall) (s : State) : HostReply × State :=
  match call with
  | .initializeCpu => (.ok, s.initialize)
  | .bindMemory contents io => (.ok, s.bindMemory contents io)
  | .step => s.stepCall
  | .writeA v => (.ok, s.setA v)
  | .writeX v => (.ok, s.setX v)
  | .writeY v => (.ok, s.setY v)
  | .writeZ v => (.ok, if s.cfg.extended then s.setZ v else s)
  | .writeSp v => (.ok, s.setSp v)
  | .writeP v => (.ok, s.setP v)
  | .writePc w => (.ok, s.setPc w)
  | .writeMemory a v => (.ok, if s.bound then { s with mem := s.mem.write a.toNat v } else s)
  | .psgWriteRegister address value => s.psgCall (s.psg.writeRegister address value)
  | .psgReadRegister address =>
    match s.psg.readRegister address with
    | .ok v => (.byte v, s)
    | .error k => (.invalidArgument k, s)
  | .psgSetClock hz => s.psgCall (s.psg.setClock hz)
  | .psgSetBufferLength n => s.psgCall (s.psg.setBufferLength n)
  | .psgGetBuffer => (.samples s.psg.getBuffer, s)
  | .psgGenerate n => s.psgCall (s.psg.generate n)

/-- A list of host calls, one after another (R1109: calls of an instance are sequential). -/
def hostCalls (s : State) : List HostCall → State
  | [] => s
  | call :: rest => hostCalls (hostCall call s).2 rest

end Sys2Proof.Machine
end

