-- ==== Sys2Proof/Safety.lean ====
section
/-! DEFINITION. The terms statements are made in: what an instruction leaves unchanged, how a step ends, the invariants
of the two blocks, and the forms the spec gives each instruction. -/

namespace Sys2Proof.Machine

/-- The 8-bit registers an instruction can name (R103, R104, R105, R107). -/
inductive Reg where
  | a
  | x
  | y
  | z
  | sp
deriving DecidableEq, Repr

/-- The value of a register. -/
def State.reg (s : State) : Reg → Byte
  | .a => s.a
  | .x => s.x
  | .y => s.y
  | .z => s.z
  | .sp => s.sp

/-- What an instruction leaves unchanged: every register not in `regs`, every flag not in `flags` (R114), every byte of
memory not at an address in `stored`; CYC, the port binding, the I/O map, the configuration and the PSG block. -/
structure Frame (s t : State) (regs : List Reg) (flags : List Flag) (stored : List Word) : Prop where
  regs : ∀ r, r ∉ regs → t.reg r = s.reg r
  flags : ∀ f, f ∉ flags → t.flag f = s.flag f
  memory : ∀ b : Word, b ∉ stored → t.mem.read b.toNat = s.mem.read b.toNat
  cyc : t.cyc = s.cyc
  bound : t.bound = s.bound
  io : t.io = s.io
  cfg : t.cfg = s.cfg
  psg : t.psg = s.psg

/-- The instruction ran to its end: no stack fault raised, no diagnostic emitted. -/
def Completed (s t : State) : Prop := t.faulted = s.faulted ∧ t.lastResult = s.lastResult ∧ t.diag = s.diag

/-- The instruction stopped where it raised a stack fault: FAULTED set, the kind returned, no diagnostic (R432). -/
def Raised (s t : State) (k : StackFaultKind) : Prop :=
  t.faulted = true ∧ t.lastResult = .stackFault k ∧ t.diag = s.diag

/-- The memory-port operations of the step, and the draws used up, are those of `u` followed by `writes`. -/
def PortAfter (u t : State) (writes : List PortOp) : Prop := t.portOps = u.portOps ++ writes ∧ t.ioDraws = u.ioDraws

/-- `SetNZ8(v)`: Z says whether v is 0, N is bit 7 of v (R17). -/
def NZ8 (t : State) (v : Byte) : Prop := (t.flag .z = true ↔ v = 0x00#8) ∧ t.flag .n = v.getLsbD 7

/-- `SetNZ16(w)`: Z says whether w is 0, N is bit 15 of w (R17). -/
def NZ16 (t : State) (w : Word) : Prop := (t.flag .z = true ↔ w = 0x0000#16) ∧ t.flag .n = w.getLsbD 15

/-- Every flag of P. -/
def allFlags : List Flag := [.n, .v, .e, .b, .d, .i, .z, .c]

/-- One form of an instruction: its opcode byte, the instruction, and its operand. -/
structure Form (α : Type) where
  opcode : Byte
  instr : Instr
  operand : α

/-- Where a read-modify-write instruction reads its operand. -/
def Place.source : Place → Source
  | .acc => .acc
  | .mem m => .mem m

/-- The instruction read the operand `src`, wrote nothing to memory and ran to its end (R425). -/
def ReadOperand (s t : State) (src : Source) : Prop :=
  Completed s t ∧ t.pc = (s.load src).2.pc ∧ PortAfter (s.load src).2 t []

/-- A read-modify-write instruction that stored `r` (R425, R429): in A, with memory as before; or at the effective
address of its mode, after exactly one read there, by exactly one write. Beyond that it wrote only `flags`. -/
def StoredAt (s t : State) (place : Place) (flags : List Flag) (r : Byte) : Prop :=
  Completed s t ∧ t.pc = (s.load place.source).2.pc ∧
    match place with
    | .acc => t.a = r ∧ Frame s t [.a] flags [] ∧ PortAfter (s.load place.source).2 t []
    | .mem m =>
      t.mem.read (s.ea m).1.toNat = r ∧ Frame s t [] flags [(s.ea m).1] ∧
        PortAfter (s.load place.source).2 t [.write (s.ea m).1 r]

/-- A word instruction that stored `r` at the address `ea` and the next (R429), low byte first, after the state `u` in
which its operand was read; beyond that it wrote only `flags`. -/
def StoredWordAt (s u t : State) (ea : Word) (flags : List Flag) (r : Word) : Prop :=
  Completed s t ∧ t.pc = u.pc ∧ t.mem.read ea.toNat = lowByte r ∧ t.mem.read (ea + 1#16).toNat = highByte r ∧
    Frame s t [] flags [ea, ea + 1#16] ∧
    PortAfter u t [.write ea (lowByte r), .write (ea + 1#16) (highByte r)]

/-- A 16-bit push of `w` that met no limit (R205, R430, R434), high byte first: PC apart, SP and the two bytes are all
that changed since the state `u` in which the operand was read. -/
def PushedWord (s u t : State) (w : Word) : Prop :=
  Completed s t ∧ t.sp = s.sp - 2#8 ∧
    t.mem.read (stackAddr s.sp).toNat = highByte w ∧ t.mem.read (stackAddr (s.sp - 1#8)).toNat = lowByte w ∧
    Frame s t [.sp] [] [stackAddr s.sp, stackAddr (s.sp - 1#8)] ∧
    PortAfter u t [.write (stackAddr s.sp) (highByte w), .write (stackAddr (s.sp - 1#8)) (lowByte w)]

/-- A 16-bit push of `w` that met the limit (R430, R432): at SP = 0x00 the high byte was written, at SP = 0x01 both
were; SP is 0x00, PC is that of `u`, and the overflow was raised. -/
def PushWordOverflowed (s u t : State) (w : Word) : Prop :=
  Raised s t .overflow ∧ t.pc = u.pc ∧ t.sp = 0x00#8 ∧ t.mem.read (stackAddr s.sp).toNat = highByte w ∧
    (s.sp = 0x00#8 →
      Frame s t [] [] [stackAddr 0x00#8] ∧ PortAfter u t [.write (stackAddr 0x00#8) (highByte w)]) ∧
    (s.sp = 0x01#8 →
      t.mem.read (stackAddr 0x00#8).toNat = lowByte w ∧
        Frame s t [.sp] [] [stackAddr 0x01#8, stackAddr 0x00#8] ∧
        PortAfter u t [.write (stackAddr 0x01#8) (highByte w), .write (stackAddr 0x00#8) (lowByte w)])

/-- Whether `n` pushes from this state meet no limit (R430). -/
def State.canPush (s : State) (n : Nat) : Prop := s.cfg.stackLimit = .fault → n ≤ s.sp.toNat

/-- Whether `n` pulls from this state meet no limit (R431). -/
def State.canPull (s : State) (n : Nat) : Prop := s.cfg.stackLimit = .fault → s.sp.toNat + n ≤ 0xFF

/-- The port after `n` reads at PC, PC + 1, ... in address order (R407). -/
def State.afterFetch (s : State) : Nat → State
  | 0 => s
  | n + 1 => (s.afterFetch n).afterRead (s.pc + BitVec.ofNat 16 n)

/-- The byte the port answers at PC + `k` once the `k` bytes before it are read: in plain RAM, the byte stored there. -/
def State.fetched (s : State) (k : Nat) : Byte := (s.afterFetch k).portByte (s.pc + BitVec.ofNat 16 k)

/-- The number of bytes of an instruction that are read: all but the bytes BRK and AUG skip (R207). -/
def bytesRead (i : Instr) : Nat := if i = .brk ∨ i = .aug then 1 else (encode i).length

/-- The port after `n` reads of the stack, one per byte pulled (R431). -/
def State.afterPulls (s : State) : Nat → State
  | 0 => s
  | n + 1 => (s.afterPulls n).afterRead (stackAddr (s.sp + BitVec.ofNat 8 (n + 1)))

/-- The byte pulled once `k` bytes are pulled (R431): in plain RAM, the byte stored at `StackAddr(SP + k + 1)`. -/
def State.pulled (s : State) (k : Nat) : Byte := (s.afterPulls k).portByte (stackAddr (s.sp + BitVec.ofNat 8 (k + 1)))

/-- The 16-bit value pulled once `k` bytes are pulled, low byte first (R431). -/
def State.pulledWord (s : State) (k : Nat) : Word := wordOf (s.pulled (k + 1)) (s.pulled k)

/-- No address of the stack page is host-mapped I/O. -/
def State.stackIsRam (s : State) : Prop := ∀ r : Byte, s.isIo (stackAddr r) = false

/-- Whether a branch on a flag value is taken; a branch on none always is (R750, R759). -/
def branchTaken (s : State) (c : Option (Flag × Bool)) : Bool :=
  match c with
  | none => true
  | some c => s.flag c.1 == c.2

/-- The same machine as the minimal variant: `EXTENDED = false`, all else as it is (R3, R312). -/
def State.minimal (s : State) : State := { s with cfg := { s.cfg with extended := false } }

/-! Invariants. -/

/-- What holds of a CPU block in every state a host can bring it to. -/
structure CpuInv (s : State) : Prop where
  /-- Memory is in canonical form (entry 1). -/
  memory : s.mem.wf = true
  /-- A Break event names opcode 0x00 (R810). -/
  breaks : ∀ e ∈ s.diag, e.kind = .break_ → e.opcode = 0x00#8
  /-- An Unimplemented event names an opcode outside `IMPLEMENTED` (R404). -/
  unimplemented : ∀ e ∈ s.diag, e.kind = .unimplemented → s.cfg.implements e.opcode = false
  /-- FAULTED is set under `STACK_LIMIT = fault` only (R117, R432). -/
  faulted : s.faulted = true → s.cfg.stackLimit = .fault
  /-- A step that returned a stack fault left FAULTED set (R432). -/
  returned : s.lastResult ≠ .ok → s.faulted = true

/-- What holds of a PSG block in every state a host can bring it to. -/
structure PsgInv (p : Psg) : Prop where
  /-- "seed must never settle at zero" (R124, R911, R919). -/
  seed : p.seed ≠ 0x0000#16
  /-- The buffer has `bufferLength` slots (R125). -/
  buffer : p.buffer.length = p.bufferLength
  /-- `clock` is positive, `baseStep` is `BASE_STEP(clock)` (R123, R905). -/
  clock : 0 < p.clock ∧ p.baseStep = baseStepOf p.cfg p.clock
  /-- The derived state is what R126 gives for the registers. -/
  toneStep : p.toneStep = ⟨toneStepOf p.cfg p.regs[0] p.regs[1], toneStepOf p.cfg p.regs[2] p.regs[3],
    toneStepOf p.cfg p.regs[4] p.regs[5]⟩
  /-- The noise step keeps the clamp it had when R[6] was written (R905). -/
  noiseStep : p.regs[6].toNat <<< p.cfg.stepBias ≤ p.noiseStep
  gates : p.toneGate = ⟨gateOf p.regs[7] 0, gateOf p.regs[7] 1, gateOf p.regs[7] 2⟩ ∧
    p.noiseGate = ⟨gateOf p.regs[7] 3, gateOf p.regs[7] 4, gateOf p.regs[7] 5⟩
  volume : p.volume = ⟨volumeOf p.cfg p.regs[8], volumeOf p.cfg p.regs[9], volumeOf p.cfg p.regs[10]⟩
  envEnable : p.envEnable = ⟨envEnableOf p.regs[8], envEnableOf p.regs[9], envEnableOf p.regs[10]⟩
  /-- No phase counter is negative. -/
  counters : 0 ≤ p.noiseCount ∧ ∀ ch, 0 ≤ p.toneCount.get ch

/-- Both blocks. -/
def Inv (s : State) : Prop := CpuInv s ∧ PsgInv s.psg

/-- Two packed BCD digits of a number below 100. -/
def bcd (n : Nat) : Byte := BitVec.ofNat 8 (16 * (n / 10) + n % 10)

/-- How often a channel toggles in the first `k` sample pairs (R919). -/
def Psg.toggles (p : Psg) (ch : Channel) (k : Nat) : Nat :=
  ((List.range k).filter fun j =>
    (p.generatePairs 0 (j + 1)).active.get ch != (p.generatePairs 0 j).active.get ch).length

/-! The forms of each instruction: opcode byte, instruction, operand (R301, R305 and the rule named). -/

/-- The forms of ORA (R450). -/
def oraForms (v b : Byte) (w : Word) : List (Form Source) :=
  [⟨0x09#8, .oraImm v, .imm v⟩, ⟨0x05#8, .oraBp b, .mem (.bp b)⟩, ⟨0x15#8, .oraBpX b, .mem (.bpX b)⟩,
   ⟨0x0D#8, .oraAbs w, .mem (.abs w)⟩, ⟨0x1D#8, .oraAbsX w, .mem (.absX w)⟩, ⟨0x19#8, .oraAbsY w, .mem (.absY w)⟩,
   ⟨0x01#8, .oraIndX b, .mem (.indX b)⟩, ⟨0x11#8, .oraIndY b, .mem (.indY b)⟩,
   ⟨0x12#8, .oraIndZ b, .mem (.indZ b)⟩]

/-- The forms of AND (R451). -/
def andForms (v b : Byte) (w : Word) : List (Form Source) :=
  [⟨0x29#8, .andImm v, .imm v⟩, ⟨0x25#8, .andBp b, .mem (.bp b)⟩, ⟨0x35#8, .andBpX b, .mem (.bpX b)⟩,
   ⟨0x2D#8, .andAbs w, .mem (.abs w)⟩, ⟨0x3D#8, .andAbsX w, .mem (.absX w)⟩, ⟨0x39#8, .andAbsY w, .mem (.absY w)⟩,
   ⟨0x21#8, .andIndX b, .mem (.indX b)⟩, ⟨0x31#8, .andIndY b, .mem (.indY b)⟩,
   ⟨0x32#8, .andIndZ b, .mem (.indZ b)⟩]

/-- The forms of EOR (R452). -/
def eorForms (v b : Byte) (w : Word) : List (Form Source) :=
  [⟨0x49#8, .eorImm v, .imm v⟩, ⟨0x45#8, .eorBp b, .mem (.bp b)⟩, ⟨0x55#8, .eorBpX b, .mem (.bpX b)⟩,
   ⟨0x4D#8, .eorAbs w, .mem (.abs w)⟩, ⟨0x5D#8, .eorAbsX w, .mem (.absX w)⟩, ⟨0x59#8, .eorAbsY w, .mem (.absY w)⟩,
   ⟨0x41#8, .eorIndX b, .mem (.indX b)⟩, ⟨0x51#8, .eorIndY b, .mem (.indY b)⟩,
   ⟨0x52#8, .eorIndZ b, .mem (.indZ b)⟩]

/-- The forms of LDA (R850). -/
def ldaForms (v b d : Byte) (w : Word) : List (Form Source) :=
  [⟨0xA9#8, .ldaImm v, .imm v⟩, ⟨0xA5#8, .ldaBp b, .mem (.bp b)⟩, ⟨0xB5#8, .ldaBpX b, .mem (.bpX b)⟩,
   ⟨0xAD#8, .ldaAbs w, .mem (.abs w)⟩, ⟨0xBD#8, .ldaAbsX w, .mem (.absX w)⟩, ⟨0xB9#8, .ldaAbsY w, .mem (.absY w)⟩,
   ⟨0xA1#8, .ldaIndX b, .mem (.indX b)⟩, ⟨0xB1#8, .ldaIndY b, .mem (.indY b)⟩,
   ⟨0xB2#8, .ldaIndZ b, .mem (.indZ b)⟩, ⟨0xE2#8, .ldaSpY d, .mem (.spY d)⟩]

/-- The forms of LDX (R851). -/
def ldxForms (v b : Byte) (w : Word) : List (Form Source) :=
  [⟨0xA2#8, .ldxImm v, .imm v⟩, ⟨0xA6#8, .ldxBp b, .mem (.bp b)⟩, ⟨0xB6#8, .ldxBpY b, .mem (.bpY b)⟩,
   ⟨0xAE#8, .ldxAbs w, .mem (.abs w)⟩, ⟨0xBE#8, .ldxAbsY w, .mem (.absY w)⟩]

/-- The forms of LDY (R852). -/
def ldyForms (v b : Byte) (w : Word) : List (Form Source) :=
  [⟨0xA0#8, .ldyImm v, .imm v⟩, ⟨0xA4#8, .ldyBp b, .mem (.bp b)⟩, ⟨0xB4#8, .ldyBpX b, .mem (.bpX b)⟩,
   ⟨0xAC#8, .ldyAbs w, .mem (.abs w)⟩, ⟨0xBC#8, .ldyAbsX w, .mem (.absX w)⟩]

/-- The forms of LDZ (R853). -/
def ldzForms (v : Byte) (w : Word) : List (Form Source) :=
  [⟨0xA3#8, .ldzImm v, .imm v⟩, ⟨0xAB#8, .ldzAbs w, .mem (.abs w)⟩, ⟨0xBB#8, .ldzAbsX w, .mem (.absX w)⟩]

/-- The forms of ADC (R860). -/
def adcForms (v b : Byte) (w : Word) : List (Form Source) :=
  [⟨0x69#8, .adcImm v, .imm v⟩, ⟨0x65#8, .adcBp b, .mem (.bp b)⟩, ⟨0x75#8, .adcBpX b, .mem (.bpX b)⟩,
   ⟨0x6D#8, .adcAbs w, .mem (.abs w)⟩, ⟨0x7D#8, .adcAbsX w, .mem (.absX w)⟩, ⟨0x79#8, .adcAbsY w, .mem (.absY w)⟩,
   ⟨0x61#8, .adcIndX b, .mem (.indX b)⟩, ⟨0x71#8, .adcIndY b, .mem (.indY b)⟩,
   ⟨0x72#8, .adcIndZ b, .mem (.indZ b)⟩]

/-- The forms of SBC (R861). -/
def sbcForms (v b : Byte) (w : Word) : List (Form Source) :=
  [⟨0xE9#8, .sbcImm v, .imm v⟩, ⟨0xE5#8, .sbcBp b, .mem (.bp b)⟩, ⟨0xF5#8, .sbcBpX b, .mem (.bpX b)⟩,
   ⟨0xED#8, .sbcAbs w, .mem (.abs w)⟩, ⟨0xFD#8, .sbcAbsX w, .mem (.absX w)⟩, ⟨0xF9#8, .sbcAbsY w, .mem (.absY w)⟩,
   ⟨0xE1#8, .sbcIndX b, .mem (.indX b)⟩, ⟨0xF1#8, .sbcIndY b, .mem (.indY b)⟩,
   ⟨0xF2#8, .sbcIndZ b, .mem (.indZ b)⟩]

/-- The forms of CMP (R865). -/
def cmpForms (v b : Byte) (w : Word) : List (Form Source) :=
  [⟨0xC9#8, .cmpImm v, .imm v⟩, ⟨0xC5#8, .cmpBp b, .mem (.bp b)⟩, ⟨0xD5#8, .cmpBpX b, .mem (.bpX b)⟩,
   ⟨0xCD#8, .cmpAbs w, .mem (.abs w)⟩, ⟨0xDD#8, .cmpAbsX w, .mem (.absX w)⟩, ⟨0xD9#8, .cmpAbsY w, .mem (.absY w)⟩,
   ⟨0xC1#8, .cmpIndX b, .mem (.indX b)⟩, ⟨0xD1#8, .cmpIndY b, .mem (.indY b)⟩,
   ⟨0xD2#8, .cmpIndZ b, .mem (.indZ b)⟩]

/-- The forms of CPX (R866). -/
def cpxForms (v b : Byte) (w : Word) : List (Form Source) :=
  [⟨0xE0#8, .cpxImm v, .imm v⟩, ⟨0xE4#8, .cpxBp b, .mem (.bp b)⟩, ⟨0xEC#8, .cpxAbs w, .mem (.abs w)⟩]

/-- The forms of CPY (R867). -/
def cpyForms (v b : Byte) (w : Word) : List (Form Source) :=
  [⟨0xC0#8, .cpyImm v, .imm v⟩, ⟨0xC4#8, .cpyBp b, .mem (.bp b)⟩, ⟨0xCC#8, .cpyAbs w, .mem (.abs w)⟩]

/-- The forms of CPZ (R868). -/
def cpzForms (v b : Byte) (w : Word) : List (Form Source) :=
  [⟨0xC2#8, .cpzImm v, .imm v⟩, ⟨0xD4#8, .cpzBp b, .mem (.bp b)⟩, ⟨0xDC#8, .cpzAbs w, .mem (.abs w)⟩]

/-- The memory forms of BIT (R453). -/
def bitForms (b : Byte) (w : Word) : List (Form AddrMode) :=
  [⟨0x24#8, .bitBp b, .bp b⟩, ⟨0x34#8, .bitBpX b, .bpX b⟩, ⟨0x2C#8, .bitAbs w, .abs w⟩,
   ⟨0x3C#8, .bitAbsX w, .absX w⟩]

/-- The forms of TSB (R455). -/
def tsbForms (b : Byte) (w : Word) : List (Form AddrMode) :=
  [⟨0x04#8, .tsbBp b, .bp b⟩, ⟨0x0C#8, .tsbAbs w, .abs w⟩]

/-- The forms of TRB (R456). -/
def trbForms (b : Byte) (w : Word) : List (Form AddrMode) :=
  [⟨0x14#8, .trbBp b, .bp b⟩, ⟨0x1C#8, .trbAbs w, .abs w⟩]

/-- The forms of STA (R854). -/
def staForms (b d : Byte) (w : Word) : List (Form AddrMode) :=
  [⟨0x85#8, .staBp b, .bp b⟩, ⟨0x95#8, .staBpX b, .bpX b⟩, ⟨0x8D#8, .staAbs w, .abs w⟩,
   ⟨0x9D#8, .staAbsX w, .absX w⟩, ⟨0x99#8, .staAbsY w, .absY w⟩, ⟨0x81#8, .staIndX b, .indX b⟩,
   ⟨0x91#8, .staIndY b, .indY b⟩, ⟨0x92#8, .staIndZ b, .indZ b⟩, ⟨0x82#8, .staSpY d, .spY d⟩]

/-- The forms of STX (R855). -/
def stxForms (b : Byte) (w : Word) : List (Form AddrMode) :=
  [⟨0x86#8, .stxBp b, .bp b⟩, ⟨0x96#8, .stxBpY b, .bpY b⟩, ⟨0x8E#8, .stxAbs w, .abs w⟩,
   ⟨0x9B#8, .stxAbsY w, .absY w⟩]

/-- The forms of STY (R856). -/
def styForms (b : Byte) (w : Word) : List (Form AddrMode) :=
  [⟨0x84#8, .styBp b, .bp b⟩, ⟨0x94#8, .styBpX b, .bpX b⟩, ⟨0x8C#8, .styAbs w, .abs w⟩,
   ⟨0x8B#8, .styAbsX w, .absX w⟩]

/-- The forms of STZ (R857). -/
def stzForms (b : Byte) (w : Word) : List (Form AddrMode) :=
  [⟨0x64#8, .stzBp b, .bp b⟩, ⟨0x74#8, .stzBpX b, .bpX b⟩, ⟨0x9C#8, .stzAbs w, .abs w⟩,
   ⟨0x9E#8, .stzAbsX w, .absX w⟩]

/-- The forms of JMP (R780). -/
def jmpForms (w : Word) : List (Form AddrMode) :=
  [⟨0x4C#8, .jmpAbs w, .abs w⟩, ⟨0x6C#8, .jmpInd w, .ind w⟩, ⟨0x7C#8, .jmpIndX w, .absIndX w⟩]

/-- The forms of JSR (R781). -/
def jsrForms (w : Word) : List (Form AddrMode) :=
  [⟨0x20#8, .jsrAbs w, .abs w⟩, ⟨0x22#8, .jsrInd w, .ind w⟩, ⟨0x23#8, .jsrIndX w, .absIndX w⟩]

/-- The forms of ASL (R500). -/
def aslForms (b : Byte) (w : Word) : List (Form Place) :=
  [⟨0x0A#8, .aslA, .acc⟩, ⟨0x06#8, .aslBp b, .mem (.bp b)⟩, ⟨0x16#8, .aslBpX b, .mem (.bpX b)⟩,
   ⟨0x0E#8, .aslAbs w, .mem (.abs w)⟩, ⟨0x1E#8, .aslAbsX w, .mem (.absX w)⟩]

/-- The forms of LSR (R501). -/
def lsrForms (b : Byte) (w : Word) : List (Form Place) :=
  [⟨0x4A#8, .lsrA, .acc⟩, ⟨0x46#8, .lsrBp b, .mem (.bp b)⟩, ⟨0x56#8, .lsrBpX b, .mem (.bpX b)⟩,
   ⟨0x4E#8, .lsrAbs w, .mem (.abs w)⟩, ⟨0x5E#8, .lsrAbsX w, .mem (.absX w)⟩]

/-- The forms of ROL (R502). -/
def rolForms (b : Byte) (w : Word) : List (Form Place) :=
  [⟨0x2A#8, .rolA, .acc⟩, ⟨0x26#8, .rolBp b, .mem (.bp b)⟩, ⟨0x36#8, .rolBpX b, .mem (.bpX b)⟩,
   ⟨0x2E#8, .rolAbs w, .mem (.abs w)⟩, ⟨0x3E#8, .rolAbsX w, .mem (.absX w)⟩]

/-- The forms of ROR (R503). -/
def rorForms (b : Byte) (w : Word) : List (Form Place) :=
  [⟨0x6A#8, .rorA, .acc⟩, ⟨0x66#8, .rorBp b, .mem (.bp b)⟩, ⟨0x76#8, .rorBpX b, .mem (.bpX b)⟩,
   ⟨0x6E#8, .rorAbs w, .mem (.abs w)⟩, ⟨0x7E#8, .rorAbsX w, .mem (.absX w)⟩]

/-- The forms of ASR (R504). -/
def asrForms (b : Byte) : List (Form Place) :=
  [⟨0x43#8, .asrA, .acc⟩, ⟨0x44#8, .asrBp b, .mem (.bp b)⟩, ⟨0x54#8, .asrBpX b, .mem (.bpX b)⟩]

/-- The forms of INC (R700). -/
def incForms (b : Byte) (w : Word) : List (Form Place) :=
  [⟨0x1A#8, .incA, .acc⟩, ⟨0xE6#8, .incBp b, .mem (.bp b)⟩, ⟨0xF6#8, .incBpX b, .mem (.bpX b)⟩,
   ⟨0xEE#8, .incAbs w, .mem (.abs w)⟩, ⟨0xFE#8, .incAbsX w, .mem (.absX w)⟩]

/-- The forms of DEC (R704). -/
def decForms (b : Byte) (w : Word) : List (Form Place) :=
  [⟨0x3A#8, .decA, .acc⟩, ⟨0xC6#8, .decBp b, .mem (.bp b)⟩, ⟨0xD6#8, .decBpX b, .mem (.bpX b)⟩,
   ⟨0xCE#8, .decAbs w, .mem (.abs w)⟩, ⟨0xDE#8, .decAbsX w, .mem (.absX w)⟩]

/-- The variants of RMB, with the bit each names (R551 to R558). -/
def rmbForms (b : Byte) : List (Form Nat) :=
  [⟨0x07#8, .rmb0 b, 0⟩, ⟨0x17#8, .rmb1 b, 1⟩, ⟨0x27#8, .rmb2 b, 2⟩, ⟨0x37#8, .rmb3 b, 3⟩, ⟨0x47#8, .rmb4 b, 4⟩,
   ⟨0x57#8, .rmb5 b, 5⟩, ⟨0x67#8, .rmb6 b, 6⟩, ⟨0x77#8, .rmb7 b, 7⟩]

/-- The variants of SMB, with the bit each names (R561 to R568). -/
def smbForms (b : Byte) : List (Form Nat) :=
  [⟨0x87#8, .smb0 b, 0⟩, ⟨0x97#8, .smb1 b, 1⟩, ⟨0xA7#8, .smb2 b, 2⟩, ⟨0xB7#8, .smb3 b, 3⟩, ⟨0xC7#8, .smb4 b, 4⟩,
   ⟨0xD7#8, .smb5 b, 5⟩, ⟨0xE7#8, .smb6 b, 6⟩, ⟨0xF7#8, .smb7 b, 7⟩]

/-- The variants of BBR, with the bit each names (R761 to R768). -/
def bbrForms (b d : Byte) : List (Form Nat) :=
  [⟨0x0F#8, .bbr0 b d, 0⟩, ⟨0x1F#8, .bbr1 b d, 1⟩, ⟨0x2F#8, .bbr2 b d, 2⟩, ⟨0x3F#8, .bbr3 b d, 3⟩,
   ⟨0x4F#8, .bbr4 b d, 4⟩, ⟨0x5F#8, .bbr5 b d, 5⟩, ⟨0x6F#8, .bbr6 b d, 6⟩, ⟨0x7F#8, .bbr7 b d, 7⟩]

/-- The variants of BBS, with the bit each names (R771 to R778). -/
def bbsForms (b d : Byte) : List (Form Nat) :=
  [⟨0x8F#8, .bbs0 b d, 0⟩, ⟨0x9F#8, .bbs1 b d, 1⟩, ⟨0xAF#8, .bbs2 b d, 2⟩, ⟨0xBF#8, .bbs3 b d, 3⟩,
   ⟨0xCF#8, .bbs4 b d, 4⟩, ⟨0xDF#8, .bbs5 b d, 5⟩, ⟨0xEF#8, .bbs6 b d, 6⟩, ⟨0xFF#8, .bbs7 b d, 7⟩]

/-- The 8-bit pushes, with the register pushed (R600 to R604). -/
def pushForms : List (Form (State → Byte)) :=
  [⟨0x48#8, .pha, State.a⟩, ⟨0x08#8, .php, State.p⟩, ⟨0xDA#8, .phx, State.x⟩, ⟨0x5A#8, .phy, State.y⟩,
   ⟨0xDB#8, .phz, State.z⟩]

/-- The 8-bit pulls into a general register (R607, R609 to R611). -/
def pullForms : List (Form Reg) :=
  [⟨0x68#8, .pla, .a⟩, ⟨0xFA#8, .plx, .x⟩, ⟨0x7A#8, .ply, .y⟩, ⟨0xFB#8, .plz, .z⟩]

/-- The transfers that write N and Z: destination, source (R650, R652, R654 to R659). -/
def transferForms : List (Form (Reg × Reg)) :=
  [⟨0x0B#8, .tsy, (.y, .sp)⟩, ⟨0xBA#8, .tsx, (.x, .sp)⟩, ⟨0xAA#8, .tax, (.x, .a)⟩, ⟨0xA8#8, .tay, (.y, .a)⟩,
   ⟨0x4B#8, .taz, (.z, .a)⟩, ⟨0x8A#8, .txa, (.a, .x)⟩, ⟨0x98#8, .tya, (.a, .y)⟩, ⟨0x6B#8, .tza, (.a, .z)⟩]

/-- The transfers to SP, with their source (R651, R653). -/
def stackTransferForms : List (Form Reg) :=
  [⟨0x2B#8, .tys, .y⟩, ⟨0x9A#8, .txs, .x⟩]

/-- The register increments (R701 to R703). -/
def incrementForms : List (Form Reg) :=
  [⟨0xE8#8, .inx, .x⟩, ⟨0xC8#8, .iny, .y⟩, ⟨0x1B#8, .inz, .z⟩]

/-- The register decrements (R705 to R707). -/
def decrementForms : List (Form Reg) :=
  [⟨0xCA#8, .dex, .x⟩, ⟨0x88#8, .dey, .y⟩, ⟨0x3B#8, .dez, .z⟩]

/-- The flag instructions: the flag, its new value (R800 to R808). -/
def flagForms : List (Form (Flag × Bool)) :=
  [⟨0x18#8, .clc, (.c, false)⟩, ⟨0x38#8, .sec, (.c, true)⟩, ⟨0x58#8, .cli, (.i, false)⟩,
   ⟨0x78#8, .sei, (.i, true)⟩, ⟨0xD8#8, .cld, (.d, false)⟩, ⟨0xF8#8, .sed, (.d, true)⟩,
   ⟨0xB8#8, .clv, (.v, false)⟩, ⟨0x02#8, .cle, (.e, false)⟩, ⟨0x03#8, .see, (.e, true)⟩]

/-- The branches: displacement, and the flag value they branch on, none for BRU (R751 to R759). -/
def branchForms (d : Byte) (w : Word) : List (Form (Displacement × Option (Flag × Bool))) :=
  [⟨0x10#8, .bplRel d, (.short d, some (.n, false))⟩, ⟨0x13#8, .bplWord w, (.word w, some (.n, false))⟩,
   ⟨0x30#8, .bmiRel d, (.short d, some (.n, true))⟩, ⟨0x33#8, .bmiWord w, (.word w, some (.n, true))⟩,
   ⟨0x50#8, .bvcRel d, (.short d, some (.v, false))⟩, ⟨0x53#8, .bvcWord w, (.word w, some (.v, false))⟩,
   ⟨0x70#8, .bvsRel d, (.short d, some (.v, true))⟩, ⟨0x73#8, .bvsWord w, (.word w, some (.v, true))⟩,
   ⟨0x90#8, .bccRel d, (.short d, some (.c, false))⟩, ⟨0x93#8, .bccWord w, (.word w, some (.c, false))⟩,
   ⟨0xB0#8, .bcsRel d, (.short d, some (.c, true))⟩, ⟨0xB3#8, .bcsWord w, (.word w, some (.c, true))⟩,
   ⟨0xD0#8, .bneRel d, (.short d, some (.z, false))⟩, ⟨0xD3#8, .bneWord w, (.word w, some (.z, false))⟩,
   ⟨0xF0#8, .beqRel d, (.short d, some (.z, true))⟩, ⟨0xF3#8, .beqWord w, (.word w, some (.z, true))⟩,
   ⟨0x80#8, .bruRel d, (.short d, none)⟩, ⟨0x83#8, .bruWord w, (.word w, none)⟩]

/-- The calls: their target, and the state once the operand bytes and the pointer are read (R781, R782). -/
def callForms (w : Word) : List (Form (State → Word × State)) :=
  [⟨0x20#8, .jsrAbs w, fun s => s.ea (.abs w)⟩, ⟨0x22#8, .jsrInd w, fun s => s.ea (.ind w)⟩,
   ⟨0x23#8, .jsrIndX w, fun s => s.ea (.absIndX w)⟩, ⟨0x63#8, .bsr w, fun s => s.relTarget (.word w)⟩]

/-! Which opcodes may write what: the lists of R107, R110 to R114. -/

/-- The opcodes that write N (R110), PLP and RTI among them. -/
def negativeWriters : List Byte :=
  [0x01#8, 0x05#8, 0x06#8, 0x09#8, 0x0A#8, 0x0B#8, 0x0D#8, 0x0E#8, 0x11#8, 0x12#8, 0x15#8, 0x16#8, 0x19#8, 0x1A#8,
   0x1B#8, 0x1D#8, 0x1E#8, 0x21#8, 0x24#8, 0x25#8, 0x26#8, 0x28#8, 0x29#8, 0x2A#8, 0x2C#8, 0x2D#8, 0x2E#8, 0x31#8,
   0x32#8, 0x34#8, 0x35#8, 0x36#8, 0x39#8, 0x3A#8, 0x3B#8, 0x3C#8, 0x3D#8, 0x3E#8, 0x40#8, 0x41#8, 0x42#8, 0x43#8,
   0x44#8, 0x45#8, 0x46#8, 0x49#8, 0x4A#8, 0x4B#8, 0x4D#8, 0x4E#8, 0x51#8, 0x52#8, 0x54#8, 0x55#8, 0x56#8, 0x59#8,
   0x5D#8, 0x5E#8, 0x61#8, 0x65#8, 0x66#8, 0x68#8, 0x69#8, 0x6A#8, 0x6B#8, 0x6D#8, 0x6E#8, 0x71#8, 0x72#8, 0x75#8,
   0x76#8, 0x79#8, 0x7A#8, 0x7D#8, 0x7E#8, 0x88#8, 0x8A#8, 0x98#8, 0xA0#8, 0xA1#8, 0xA2#8, 0xA3#8, 0xA4#8, 0xA5#8,
   0xA6#8, 0xA8#8, 0xA9#8, 0xAA#8, 0xAB#8, 0xAC#8, 0xAD#8, 0xAE#8, 0xB1#8, 0xB2#8, 0xB4#8, 0xB5#8, 0xB6#8, 0xB9#8,
   0xBA#8, 0xBB#8, 0xBC#8, 0xBD#8, 0xBE#8, 0xC0#8, 0xC1#8, 0xC2#8, 0xC3#8, 0xC4#8, 0xC5#8, 0xC6#8, 0xC8#8, 0xC9#8,
   0xCA#8, 0xCB#8, 0xCC#8, 0xCD#8, 0xCE#8, 0xD1#8, 0xD2#8, 0xD4#8, 0xD5#8, 0xD6#8, 0xD9#8, 0xDC#8, 0xDD#8, 0xDE#8,
   0xE0#8, 0xE1#8, 0xE2#8, 0xE3#8, 0xE4#8, 0xE5#8, 0xE6#8, 0xE8#8, 0xE9#8, 0xEB#8, 0xEC#8, 0xED#8, 0xEE#8, 0xF1#8,
   0xF2#8, 0xF5#8, 0xF6#8, 0xF9#8, 0xFA#8, 0xFB#8, 0xFD#8, 0xFE#8]

/-- The opcodes that write Z (R111): those of R110, TSB and TRB, BIT in every mode. -/
def zeroWriters : List Byte :=
  [0x01#8, 0x04#8, 0x05#8, 0x06#8, 0x09#8, 0x0A#8, 0x0B#8, 0x0C#8, 0x0D#8, 0x0E#8, 0x11#8, 0x12#8, 0x14#8, 0x15#8,
   0x16#8, 0x19#8, 0x1A#8, 0x1B#8, 0x1C#8, 0x1D#8, 0x1E#8, 0x21#8, 0x24#8, 0x25#8, 0x26#8, 0x28#8, 0x29#8, 0x2A#8,
   0x2C#8, 0x2D#8, 0x2E#8, 0x31#8, 0x32#8, 0x34#8, 0x35#8, 0x36#8, 0x39#8, 0x3A#8, 0x3B#8, 0x3C#8, 0x3D#8, 0x3E#8,
   0x40#8, 0x41#8, 0x42#8, 0x43#8, 0x44#8, 0x45#8, 0x46#8, 0x49#8, 0x4A#8, 0x4B#8, 0x4D#8, 0x4E#8, 0x51#8, 0x52#8,
   0x54#8, 0x55#8, 0x56#8, 0x59#8, 0x5D#8, 0x5E#8, 0x61#8, 0x65#8, 0x66#8, 0x68#8, 0x69#8, 0x6A#8, 0x6B#8, 0x6D#8,
   0x6E#8, 0x71#8, 0x72#8, 0x75#8, 0x76#8, 0x79#8, 0x7A#8, 0x7D#8, 0x7E#8, 0x88#8, 0x89#8, 0x8A#8, 0x98#8, 0xA0#8,
   0xA1#8, 0xA2#8, 0xA3#8, 0xA4#8, 0xA5#8, 0xA6#8, 0xA8#8, 0xA9#8, 0xAA#8, 0xAB#8, 0xAC#8, 0xAD#8, 0xAE#8, 0xB1#8,
   0xB2#8, 0xB4#8, 0xB5#8, 0xB6#8, 0xB9#8, 0xBA#8, 0xBB#8, 0xBC#8, 0xBD#8, 0xBE#8, 0xC0#8, 0xC1#8, 0xC2#8, 0xC3#8,
   0xC4#8, 0xC5#8, 0xC6#8, 0xC8#8, 0xC9#8, 0xCA#8, 0xCB#8, 0xCC#8, 0xCD#8, 0xCE#8, 0xD1#8, 0xD2#8, 0xD4#8, 0xD5#8,
   0xD6#8, 0xD9#8, 0xDC#8, 0xDD#8, 0xDE#8, 0xE0#8, 0xE1#8, 0xE2#8, 0xE3#8, 0xE4#8, 0xE5#8, 0xE6#8, 0xE8#8, 0xE9#8,
   0xEB#8, 0xEC#8, 0xED#8, 0xEE#8, 0xF1#8, 0xF2#8, 0xF5#8, 0xF6#8, 0xF9#8, 0xFA#8, 0xFB#8, 0xFD#8, 0xFE#8]

/-- The opcodes that write C (R112). -/
def carryWriters : List Byte :=
  [0x06#8, 0x0A#8, 0x0E#8, 0x16#8, 0x18#8, 0x1E#8, 0x26#8, 0x28#8, 0x2A#8, 0x2E#8, 0x36#8, 0x38#8, 0x3E#8, 0x40#8,
   0x43#8, 0x44#8, 0x46#8, 0x4A#8, 0x4E#8, 0x54#8, 0x56#8, 0x5E#8, 0x61#8, 0x65#8, 0x66#8, 0x69#8, 0x6A#8, 0x6D#8,
   0x6E#8, 0x71#8, 0x72#8, 0x75#8, 0x76#8, 0x79#8, 0x7D#8, 0x7E#8, 0xC0#8, 0xC1#8, 0xC2#8, 0xC4#8, 0xC5#8, 0xC9#8,
   0xCB#8, 0xCC#8, 0xCD#8, 0xD1#8, 0xD2#8, 0xD4#8, 0xD5#8, 0xD9#8, 0xDC#8, 0xDD#8, 0xE0#8, 0xE1#8, 0xE4#8, 0xE5#8,
   0xE9#8, 0xEB#8, 0xEC#8, 0xED#8, 0xF1#8, 0xF2#8, 0xF5#8, 0xF9#8, 0xFD#8]

/-- The opcodes that write V (R109): ADC, SBC, BIT in the memory modes, CLV, PLP, RTI. -/
def overflowWriters : List Byte :=
  [0x24#8, 0x28#8, 0x2C#8, 0x34#8, 0x3C#8, 0x40#8, 0x61#8, 0x65#8, 0x69#8, 0x6D#8, 0x71#8, 0x72#8, 0x75#8, 0x79#8,
   0x7D#8, 0xB8#8, 0xE1#8, 0xE5#8, 0xE9#8, 0xED#8, 0xF1#8, 0xF2#8, 0xF5#8, 0xF9#8, 0xFD#8]

/-- The opcodes that may write a flag (R109 to R112). BIT # writes N and V under `BIT_IMM_NV` (R454), TBA writes N and
Z in a configuration that implements it (R661). -/
def Flag.writers (cfg : CpuConfig) : Flag → List Byte
  | .n => negativeWriters ++ (if cfg.bitImmNV then [0x89#8] else []) ++ (if cfg.implements 0x7B#8 then [0x7B#8] else [])
  | .v => overflowWriters ++ (if cfg.bitImmNV then [0x89#8] else [])
  | .e => [0x02#8, 0x03#8, 0x28#8, 0x40#8]
  | .b => [0x00#8, 0x28#8, 0x40#8]
  | .d => [0x28#8, 0x40#8, 0xD8#8, 0xF8#8]
  | .i => [0x28#8, 0x40#8, 0x58#8, 0x78#8]
  | .z => zeroWriters ++ (if cfg.implements 0x7B#8 then [0x7B#8] else [])
  | .c => carryWriters

/-- The opcodes that push or pull: the only ones that can raise a stack fault (R432, R1008). -/
def stackOpcodes : List Byte :=
  [0x08#8, 0x20#8, 0x22#8, 0x23#8, 0x28#8, 0x40#8, 0x48#8, 0x5A#8, 0x60#8, 0x62#8, 0x63#8, 0x68#8, 0x7A#8, 0xDA#8,
   0xDB#8, 0xF4#8, 0xFA#8, 0xFB#8, 0xFC#8]

/-- The opcodes that write SP: "pushes, pulls, JSR, BSR, RTS, RTN, RTI, TXS, TYS" (R107). -/
def stackPointerWriters : List Byte := stackOpcodes ++ [0x2B#8, 0x9A#8]

/-- The opcodes whose rule may write PC with a target: JMP, JSR, BSR, RTS, RTN, RTI and the branches (R405). -/
def transferOpcodes : List Byte :=
  [0x0F#8, 0x10#8, 0x13#8, 0x1F#8, 0x20#8, 0x22#8, 0x23#8, 0x2F#8, 0x30#8, 0x33#8, 0x3F#8, 0x40#8, 0x4C#8, 0x4F#8,
   0x50#8, 0x53#8, 0x5F#8, 0x60#8, 0x62#8, 0x63#8, 0x6C#8, 0x6F#8, 0x70#8, 0x73#8, 0x7C#8, 0x7F#8, 0x80#8, 0x83#8,
   0x8F#8, 0x90#8, 0x93#8, 0x9F#8, 0xAF#8, 0xB0#8, 0xB3#8, 0xBF#8, 0xCF#8, 0xD0#8, 0xD3#8, 0xDF#8, 0xEF#8, 0xF0#8,
   0xF3#8, 0xFF#8]

/-- The 151 opcodes of the minimal variant, written out from the mnemonics and modes R312 names. -/
def minimalOpcodes : List Byte :=
  [0x00#8, 0x01#8, 0x05#8, 0x06#8, 0x08#8, 0x09#8, 0x0A#8, 0x0D#8, 0x0E#8, 0x10#8, 0x11#8, 0x15#8, 0x16#8, 0x18#8,
   0x19#8, 0x1D#8, 0x1E#8, 0x20#8, 0x21#8, 0x24#8, 0x25#8, 0x26#8, 0x28#8, 0x29#8, 0x2A#8, 0x2C#8, 0x2D#8, 0x2E#8,
   0x30#8, 0x31#8, 0x35#8, 0x36#8, 0x38#8, 0x39#8, 0x3D#8, 0x3E#8, 0x40#8, 0x41#8, 0x45#8, 0x46#8, 0x48#8, 0x49#8,
   0x4A#8, 0x4C#8, 0x4D#8, 0x4E#8, 0x50#8, 0x51#8, 0x55#8, 0x56#8, 0x58#8, 0x59#8, 0x5D#8, 0x5E#8, 0x60#8, 0x61#8,
   0x65#8, 0x66#8, 0x68#8, 0x69#8, 0x6A#8, 0x6C#8, 0x6D#8, 0x6E#8, 0x70#8, 0x71#8, 0x75#8, 0x76#8, 0x78#8, 0x79#8,
   0x7D#8, 0x7E#8, 0x81#8, 0x84#8, 0x85#8, 0x86#8, 0x88#8, 0x8A#8, 0x8C#8, 0x8D#8, 0x8E#8, 0x90#8, 0x91#8, 0x94#8,
   0x95#8, 0x96#8, 0x98#8, 0x99#8, 0x9A#8, 0x9D#8, 0xA0#8, 0xA1#8, 0xA2#8, 0xA4#8, 0xA5#8, 0xA6#8, 0xA8#8, 0xA9#8,
   0xAA#8, 0xAC#8, 0xAD#8, 0xAE#8, 0xB0#8, 0xB1#8, 0xB4#8, 0xB5#8, 0xB6#8, 0xB8#8, 0xB9#8, 0xBA#8, 0xBC#8, 0xBD#8,
   0xBE#8, 0xC0#8, 0xC1#8, 0xC4#8, 0xC5#8, 0xC6#8, 0xC8#8, 0xC9#8, 0xCA#8, 0xCC#8, 0xCD#8, 0xCE#8, 0xD0#8, 0xD1#8,
   0xD5#8, 0xD6#8, 0xD8#8, 0xD9#8, 0xDD#8, 0xDE#8, 0xE0#8, 0xE1#8, 0xE4#8, 0xE5#8, 0xE6#8, 0xE8#8, 0xE9#8, 0xEA#8,
   0xEC#8, 0xED#8, 0xEE#8, 0xF0#8, 0xF1#8, 0xF5#8, 0xF6#8, 0xF8#8, 0xF9#8, 0xFD#8, 0xFE#8]

end Sys2Proof.Machine
end

