-- ==== Sys2Proof/WellFormed.lean ====
section
/-! DEFINITION. Which instructions are well formed. Every value of every operand byte is legal (R302 to R304, R308),
and the types of `Instr` hold exactly those values; the one check the spec leaves is membership in `IMPLEMENTED`
(R309, R310, R312). -/

namespace Sys2Proof

/-- An instruction a configuration implements: its opcode is in `IMPLEMENTED` (R309 to R312; entry 20). -/
def Instr.wellFormed (cfg : CpuConfig) (i : Instr) : Bool := cfg.implements i.opcode

end Sys2Proof
end

