-- ==== Sys2Proof/Certificates/Slice0/Obligations.lean ====
section
/-! DEFINITION. The statements for the provers, from the numbered rules of the spec. -/

section

open Sys2Proof Sys2Proof.Machine

/-- For every instruction of the opcode map, with every operand, and whatever bytes follow: decoding its encoding
gives the instruction and leaves the bytes that follow. (Rests on R300, R301, R302, R303, R304, R305, R313.) -/
def Obligations.DecodeOfEncodeIsTheInstruction : Prop :=
  ∀ (i : Instr) (rest : List Byte), decode (encode i ++ rest) = .ok (i, rest)

/-- Whenever a list of bytes decodes to an instruction i, the bytes consumed are as many as the encoding of i has,
their first is the opcode of i, and, unless i is BRK or AUG, whose further bytes are skipped, they are exactly
the encoding of i. (Rests on R300, R301, R305, R307, R313.) -/
def Obligations.DecodedBytesAreTheEncoding : Prop :=
  ∀ (bytes : List Byte) (i : Instr) (rest : List Byte), decode bytes = .ok (i, rest) →
    ∃ own, bytes = own ++ rest ∧ own.length = (encode i).length ∧ own.head? = some i.opcode ∧
      (i ≠ .brk → i ≠ .aug → own = encode i)

/-- ORA #$12 is 0x09 0x12; STX $1234,Y is 0x9B 0x34 0x12; BBR3 $10,+5 is 0x3F 0x10 0x05; PHW #$1234 is 0xF4 0x34
0x12; BRU with displacement 0x1000 is 0x83 0x00 0x10; BRK is 0x00 and one byte; AUG is 0x5C and three bytes.
(Rests on R301, R305.) -/
def Obligations.SpecWordsDecode : Prop :=
  decode [0x09#8, 0x12#8] = .ok (.oraImm 0x12#8, []) ∧
  decode [0x9B#8, 0x34#8, 0x12#8] = .ok (.stxAbsY 0x1234#16, []) ∧
  decode [0x3F#8, 0x10#8, 0x05#8] = .ok (.bbr3 0x10#8 0x05#8, []) ∧
  decode [0xF4#8, 0x34#8, 0x12#8] = .ok (.phwImm 0x1234#16, []) ∧
  decode [0x83#8, 0x00#8, 0x10#8] = .ok (.bruWord 0x1000#16, []) ∧
  decode [0x00#8, 0xEA#8] = .ok (.brk, []) ∧
  decode [0x5C#8, 0x01#8, 0x02#8, 0x03#8] = .ok (.aug, [])

/-- In a configuration with EXTENDED = false that leaves no opcode out, IMPLEMENTED is exactly the 151 opcodes of
the base set. For a machine with EXTENDED = true, a port bound, no stack fault pending and an implemented opcode
at PC: with EXTENDED = false instead, its step has the same effect if the opcode is one of the 151; otherwise it
executes the unimplemented-opcode rule, with PC past the instruction, the cost charged, one Unimplemented
diagnostic, and all else as before. (That the two steps compared meet the same free values, at I/O addresses and
under DECIMAL_MODEL = open, is the model's choice, log entries 7 and 9.) (Rests on R312.) -/
def Obligations.MinimalVariantRunsTheSameRules : Prop :=
  (∀ cfg : CpuConfig, cfg.extended = false → cfg.unimplemented = [] →
    ∀ op, cfg.implements op = true ↔ op ∈ minimalOpcodes) ∧
  ∀ s : State, s.bound = true → s.faulted = false → s.cfg.extended = true →
    s.cfg.implements (s.portByte s.pc) = true →
    (s.portByte s.pc ∈ minimalOpcodes →
      ∃ t, step s = .next t ∧ step s.minimal = .next t.minimal) ∧
    (s.portByte s.pc ∉ minimalOpcodes →
      ∃ t, step s.minimal = .next t ∧ t.pc = s.pc + BitVec.ofNat 16 (opcodeLength (s.portByte s.pc)) ∧
        t.diag = s.diag ++ [⟨.unimplemented, s.portByte s.pc, s.pc⟩] ∧ t.lastResult = .ok ∧ t.faulted = false ∧
        Frame (s.minimal.charge (s.portByte s.pc)) t [] [] [])

/-- With a port bound and no stack fault pending: if the bytes the port answers at PC, PC + 1, ... decode to an
instruction i of IMPLEMENTED (only the bytes i reads are asked of the port; the bytes BRK and AUG skip may be
any), the step is exec of i in the state with PC past the opcode, the cost of the opcode charged, the reads of
those bytes, in address order, as the only port operations so far, and Ok as the result so far. (Rests on R401,
R402, R407, R313.) -/
def Obligations.StepRunsTheDecodedInstruction : Prop :=
  ∀ (s : State) (i : Instr) (bytes rest : List Byte), s.bound = true → s.faulted = false →
    i.wellFormed s.cfg = true → decode bytes = .ok (i, rest) →
    (∀ k, k < bytesRead i → bytes[k]? = some (s.beginStep.fetched k)) →
    step s = exec i { s with
      pc := s.pc + 1#16
      cyc := s.cyc + s.cfg.cost[i.opcode.toNat]'(i.opcode.isLt)
      ioDraws := (s.beginStep.afterFetch (bytesRead i)).ioDraws
      portOps := (s.beginStep.afterFetch (bytesRead i)).portOps
      lastResult := .ok }

/-- With no memory port bound a step returns ConfigFault(NoMemory), whether or not FAULTED is set; with a port bound
and FAULTED set it returns StackFault(Halted). In both cases the machine state after the call is the state
before it. (States R403, R1003.) -/
def Obligations.StepPreconditions : Prop :=
  ∀ s : State,
    (s.bound = false →
      step s = .fault .configFaultNoMemory ∧ hostCall .step s = (.stopped .configFaultNoMemory, s)) ∧
    (s.bound = true → s.faulted = true →
      step s = .fault .stackFaultHalted ∧ hostCall .step s = (.stopped .stackFaultHalted, s))

/-- With a port bound and no stack fault pending, the step of an opcode outside IMPLEMENTED completes: PC is past
the instruction, whose length is that of its opcode; the cost is charged; one Unimplemented diagnostic with the
opcode and its address is appended; the opcode fetch is the only port operation; the step returns Ok; registers,
flags and memory are unchanged. (States R404, R309.) -/
def Obligations.UnimplementedOpcodeStep : Prop :=
  ∀ s : State, s.bound = true → s.faulted = false → s.cfg.implements (s.portByte s.pc) = false →
    ∃ t, step s = .next t ∧ t.pc = s.pc + BitVec.ofNat 16 (opcodeLength (s.portByte s.pc)) ∧
      t.cyc = s.cyc + s.cfg.cost[(s.portByte s.pc).toNat]'((s.portByte s.pc).isLt) ∧
      t.diag = s.diag ++ [⟨.unimplemented, s.portByte s.pc, s.pc⟩] ∧
      t.portOps = [.read s.pc (s.portByte s.pc)] ∧ t.lastResult = .ok ∧ t.faulted = false ∧
      Frame (s.charge (s.portByte s.pc)) t [] [] []

/-- With a port bound and no stack fault pending a step always answers a next state: no opcode, operand or data
stops it, and no instruction is refused. CYC has grown by exactly the cost of the opcode fetched. The step
returned Ok and FAULTED is still clear, or it returned StackFault(Overflow) or StackFault(Underflow) and FAULTED
is set; the latter only for an implemented opcode that pushes or pulls, with STACK_LIMIT = fault. (Rests on
R400, R401, R115, R1000, R1008, R432.) -/
def Obligations.EveryStepCompletes : Prop :=
  ∀ s : State, s.bound = true → s.faulted = false →
    ∃ t, step s = .next t ∧ t.cyc = s.cyc + s.cfg.cost[(s.portByte s.pc).toNat]'((s.portByte s.pc).isLt) ∧
      ((t.lastResult = .ok ∧ t.faulted = false) ∨
        ((t.lastResult = .stackFault .overflow ∨ t.lastResult = .stackFault .underflow) ∧ t.faulted = true ∧
          s.cfg.stackLimit = .fault ∧ s.cfg.implements (s.portByte s.pc) = true ∧
          s.portByte s.pc ∈ stackOpcodes))

/-- Whatever instruction a step runs: the PSG block, the configuration, the port binding and the I/O map are
unchanged, and DIAG gains an Unimplemented event exactly when the opcode is outside IMPLEMENTED, a Break event
exactly when it is BRK, and nothing otherwise, the event naming the opcode and the address it was fetched from.
(Rests on R106, R118, R1006, R1008, R1014.) -/
def Obligations.StepLeavesTheRest : Prop :=
  ∀ s t : State, step s = .next t →
    t.psg = s.psg ∧ t.cfg = s.cfg ∧ t.bound = s.bound ∧ t.io = s.io ∧
    t.diag = s.diag ++
      (if s.cfg.implements (s.portByte s.pc) = false then [⟨.unimplemented, s.portByte s.pc, s.pc⟩]
        else if s.portByte s.pc = 0x00#8 then [⟨.break_, 0x00#8, s.pc⟩] else [])

/-- If a step returns Ok and its opcode is unimplemented, or is none of JMP, JSR, BSR, RTS, RTN, RTI and the
branches, PC has advanced by exactly the length of the opcode, modulo 2^16. (The not-taken branches are in
BranchResult and BitBranchResult.) (Rests on R405, R307.) -/
def Obligations.StepAdvancesPcByTheLength : Prop :=
  ∀ s t : State, step s = .next t → t.lastResult = .ok →
    (s.portByte s.pc ∉ transferOpcodes ∨ s.cfg.implements (s.portByte s.pc) = false) →
    t.pc = s.pc + BitVec.ofNat 16 (opcodeLength (s.portByte s.pc))

/-- Over all instructions: a step changes a flag only if its opcode is one of those the spec lists as writing that
flag (BIT # counting for N and V under BIT_IMM_NV, TBA for N and Z in a configuration that implements it), and
changes SP only if its opcode is a push, a pull, JSR, BSR, RTS, RTN, RTI, TXS or TYS. (Rests on R107, R109,
R110, R111, R112, R114.) -/
def Obligations.FlagAndStackPointerWriters : Prop :=
  ∀ s t : State, step s = .next t →
    (∀ f : Flag, s.portByte s.pc ∉ f.writers s.cfg → t.flag f = s.flag f) ∧
    (s.portByte s.pc ∉ stackPointerWriters → t.sp = s.sp)

/-- From every state that meets the invariant, whatever its configuration, a step that answers a next state answers
one that meets it: memory stays in canonical form, Break events name opcode 0x00, Unimplemented events name
opcodes outside IMPLEMENTED, FAULTED is set only under STACK_LIMIT = fault, a returned stack fault leaves
FAULTED set, and the PSG block keeps its own invariant. (The canonical form of memory is the model's, log entry
1; the fields that record what a step returned are entry 5.) (Rests on R117, R203, R404, R432, R810.) -/
def Obligations.StepKeepsInvariant : Prop :=
  ∀ s t : State, Inv s → step s = .next t → Inv t

/-- The newly constructed machine meets the invariant of both blocks. (Two clauses of the invariant are the model's
choice: the canonical form of memory is log entry 1; the record of what a step returned, ok at reset, is entry
5.) (Rests on R901, R1102.) -/
def Obligations.ResetMeetsInvariant : Prop :=
  Inv State.reset

/-- From every state that meets the invariant, any sequence of host calls (steps, register writes, memory writes,
bindings, initialisations and PSG operations, rejected ones included) leads to a state that meets it: in
particular the noise seed is not zero, the buffer has its length, the derived synthesis state is what the
registers give, and no phase counter is negative. (Clauses that are the model's choice: the canonical form of
memory is log entry 1, the record of what a step returned entry 5, what a binding hands over entry 18.) (Rests
on R119, R123, R124, R125, R126, R904, R911, R919.) -/
def Obligations.HostCallsKeepInvariant : Prop :=
  ∀ (calls : List HostCall) (s : State), Inv s → Inv (hostCalls s calls)

/-- After initialize(), in any state: A, X, Y, Z, SP and P are 0x00, PC is 0x0000, CYC is 0 and FAULTED is clear;
the binding, DIAG, memory, the I/O map, the configuration and the PSG block are as before. (That Z is written
when EXTENDED is false too is the model's choice, log entry 11.) (Rests on R1100, R1101.) -/
def Obligations.InitializeSetsTheCpuState : Prop :=
  ∀ s : State, ∃ t, hostCall .initializeCpu s = (.ok, t) ∧
    t.a = 0x00#8 ∧ t.x = 0x00#8 ∧ t.y = 0x00#8 ∧ t.z = 0x00#8 ∧ t.sp = 0x00#8 ∧ t.p = 0x00#8 ∧
    t.pc = 0x0000#16 ∧ t.cyc = 0 ∧ t.faulted = false ∧
    t.bound = s.bound ∧ t.diag = s.diag ∧ t.mem = s.mem ∧ t.io = s.io ∧ t.cfg = s.cfg ∧ t.psg = s.psg

/-- After construction every CPU register and flag is 0, PC is 0x0000, CYC is 0, no port is bound, FAULTED is clear
and DIAG is empty; every PSG register is 0x00, the tone steps are 0, the noise step is the base step of the
default clock, all six gates are enabled, every volume is entry 0 of the volume table shifted by the bias, the
envelope enables are clear, the counters are 0, no channel is active, the seed is 0x0001 and the buffer is
empty. (Rests on R100, R901, R1102, R1103, R1104.) -/
def Obligations.ResetState : Prop :=
  let s := State.reset
  (∀ r, s.reg r = 0x00#8) ∧ (∀ f, s.flag f = false) ∧ s.pc = 0x0000#16 ∧ s.cyc = 0 ∧ s.bound = false ∧
  s.faulted = false ∧ s.diag = [] ∧
  (∀ k, (h : k < 16) → s.psg.regs[k] = 0x00#8) ∧ s.psg.clock = s.psg.cfg.defaultClock.val ∧
  s.psg.baseStep = baseStepOf s.psg.cfg s.psg.clock ∧ s.psg.noiseStep = s.psg.baseStep ∧
  (∀ ch, s.psg.toneStep.get ch = 0 ∧ s.psg.toneGate.get ch = true ∧ s.psg.noiseGate.get ch = true ∧
    s.psg.volume.get ch = s.psg.cfg.volumeTable[0] <<< s.psg.cfg.volumeBias ∧
    s.psg.envEnable.get ch = false ∧ s.psg.toneCount.get ch = 0 ∧ s.psg.active.get ch = false) ∧
  s.psg.noiseCount = 0 ∧ s.psg.seed = 0x0001#16 ∧ s.psg.bufferLength = 0 ∧ s.psg.buffer = []

/-- Between steps the host writes A, X, Y, SP, P and PC with any value of their width, and Z when EXTENDED is true:
the register holds the value, and every other element of the state is as before. With a port bound the host
writes a byte of memory: it reads back there, every other byte and all else as before. (That a write of Z
changes nothing when EXTENDED is false is the model's choice, log entry 11.) (Rests on R119, R203, R105.) -/
def Obligations.HostWritesWhatItNames : Prop :=
  ∀ (s : State) (v : Byte) (w a : Word),
    (∀ g ∈ [(HostCall.writeA v, Reg.a), (.writeX v, .x), (.writeY v, .y), (.writeSp v, .sp)],
      ∃ t, hostCall g.1 s = (.ok, t) ∧ t.reg g.2 = v ∧ t.pc = s.pc ∧ Completed s t ∧ Frame s t [g.2] [] []) ∧
    (∃ t, hostCall (.writeZ v) s = (.ok, t) ∧ t.z = (if s.cfg.extended then v else s.z) ∧ t.pc = s.pc ∧
      Completed s t ∧ Frame s t [.z] [] []) ∧
    hostCall (.writeP v) s = (.ok, { s with p := v }) ∧ hostCall (.writePc w) s = (.ok, { s with pc := w }) ∧
    (s.bound = true → ∃ t, hostCall (.writeMemory a v) s = (.ok, t) ∧ t.mem.read a.toNat = v ∧ t.pc = s.pc ∧
      Completed s t ∧ Frame s t [] [] [a])

/-- For each of the six PSG operations and any two machines with equal PSG blocks: the operation returns the same to
both, leaves both with equal PSG blocks, and changes nothing else in either. (That generate stores the same
value in both for a sum above 32767 is the model's choice, log entry 10.) (Rests on R1, R900, R1014.) -/
def Obligations.PsgCallsTouchOnlyThePsg : Prop :=
  ∀ (address value hz n : Int) (s s' : State), s'.psg = s.psg →
    ∀ call ∈ [HostCall.psgWriteRegister address value, .psgReadRegister address, .psgSetClock hz,
        .psgSetBufferLength n, .psgGetBuffer, .psgGenerate n],
      ∃ (reply : HostReply) (p : Psg),
        hostCall call s = (reply, { s with psg := p }) ∧ hostCall call s' = (reply, { s' with psg := p })

/-- After a byte is written at an address, a read of a plain-RAM address gives that byte there and what it gave
before elsewhere; a read changes no byte. A 16-bit read takes its low byte at a and its high byte at a + 1
modulo 2^16, low byte first; a 16-bit value written at a and read back is the value written. (Rests on R203,
R204, R205, R213.) -/
def Obligations.PortReadsWhatWasWritten : Prop :=
  (∀ (s : State) (a b : Word) (v : Byte), s.isIo b = false →
    (s.memWrite a v).portByte b = (if b = a then v else s.portByte b) ∧ (s.afterRead a).mem = s.mem) ∧
  (∀ (s : State) (a : Word), s.isIo a = false → s.isIo (a + 1#16) = false →
    (s.mem16 a).1.toNat = 256 * (s.mem.read ((a.toNat + 1) % 65536)).toNat + (s.mem.read a.toNat).toNat ∧
    (s.mem16 a).2.portOps = s.portOps ++
      [.read a (s.mem.read a.toNat), .read (a + 1#16) (s.mem.read ((a.toNat + 1) % 65536))]) ∧
  (∀ (s : State) (a w : Word), s.isIo a = false → s.isIo (a + 1#16) = false →
    ((s.memWrite16 a w).mem16 a).1 = w)

/-- Base page: the byte b. Base page indexed: b + X, or b + Y, modulo 2^16, never wrapped inside the base page.
Absolute: the word w; indexed: w + X, or w + Y, modulo 2^16. Each consumes its operand bytes (one, or two) and
performs no port operation. (States R413, R414, R415, R416, R417, R418.) -/
def Obligations.DirectAddresses : Prop :=
  ∀ (s : State) (b : Byte) (w : Word),
    ∀ m ∈ [(AddrMode.bp b, b.toNat, 1), (.bpX b, b.toNat + s.x.toNat, 1), (.bpY b, b.toNat + s.y.toNat, 1),
        (.abs w, w.toNat, 2), (.absX w, w.toNat + s.x.toNat, 2), (.absY w, w.toNat + s.y.toNat, 2)],
      (s.ea m.1).1.toNat = m.2.1 % 65536 ∧ (s.ea m.1).2 = { s with pc := s.pc + BitVec.ofNat 16 m.2.2 }

/-- The pointer of (bp,X) is at b + X, of (bp),Y and (bp),Z at b, of (d,SP),Y at 0x0100 + SP + d, of (abs) at w, of
(abs,X) at w + X, modulo 2^16. Its low byte is read there, then its high byte at the next address modulo 2^16.
The address is the pointer, plus Y for (bp),Y and (d,SP),Y, plus Z for (bp),Z, modulo 2^16. The mode consumes
its operand bytes, makes those two reads, and changes nothing else. (States R419, R420, R422, R423, R424.) -/
def Obligations.PointerAddresses : Prop :=
  ∀ (s : State) (b d : Byte) (w : Word),
    ∀ m ∈ [(AddrMode.indX b, b.toNat + s.x.toNat, 0, 1), (.indY b, b.toNat, s.y.toNat, 1),
        (.indZ b, b.toNat, s.z.toNat, 1), (.spY d, 0x0100 + s.sp.toNat + d.toNat, s.y.toNat, 1),
        (.ind w, w.toNat, 0, 2), (.absIndX w, w.toNat + s.x.toNat, 0, 2)],
      let at_ := BitVec.ofNat 16 m.2.1
      let low := s.portByte at_
      let high := (s.afterRead at_).portByte (at_ + 1#16)
      (s.ea m.1).1.toNat = (256 * high.toNat + low.toNat + m.2.2.1) % 65536 ∧
      (s.ea m.1).2 = { s with
        pc := s.pc + BitVec.ofNat 16 m.2.2.2
        ioDraws := ((s.afterRead at_).afterRead (at_ + 1#16)).ioDraws
        portOps := s.portOps ++ [.read at_ low, .read (at_ + 1#16) high] }

/-- An immediate operand is the operand byte, PC past it; the accumulator operand is A, with nothing consumed; a
memory operand is the byte the port answers at the effective address, by one read there. A relative target is PC
past the displacement, plus the displacement read as a signed 8-bit or 16-bit number, modulo 2^16. (States R411,
R426, R427.) -/
def Obligations.OperandsAndTargets : Prop :=
  (∀ (s : State) (v : Byte), s.load (.imm v) = (v, { s with pc := s.pc + 1#16 })) ∧
  (∀ s : State, s.load .acc = (s.a, s)) ∧
  (∀ (s : State) (m : AddrMode),
    s.load (.mem m) = ((s.ea m).2.portByte (s.ea m).1, (s.ea m).2.afterRead (s.ea m).1)) ∧
  (∀ (s : State) (d : Byte), (s.relTarget (.short d)).2 = { s with pc := s.pc + 1#16 } ∧
    ((s.relTarget (.short d)).1.toNat : Int) = ((s.pc + 1#16).toNat + d.toInt) % 65536) ∧
  (∀ (s : State) (d : Word), (s.relTarget (.word d)).2 = { s with pc := s.pc + 2#16 } ∧
    ((s.relTarget (.word d)).1.toNat : Int) = ((s.pc + 2#16).toNat + d.toInt) % 65536)

/-- In every form, with its opcode, the instruction completes: A becomes A OR, AND, XOR the operand; Z and N are set
from the new A; the operand is read as its mode says; nothing else changes, no byte of memory among it. (States
R450, R451, R452.) -/
def Obligations.LogicalResult : Prop :=
  ∀ (v b : Byte) (w : Word) (s : State),
    ∀ g ∈ [(oraForms v b w, fun p q : Byte => p ||| q), (andForms v b w, fun p q => p &&& q),
        (eorForms v b w, fun p q => p ^^^ q)],
      ∀ f ∈ g.1, f.instr.opcode = f.opcode ∧
        ∃ t, exec f.instr s = .next t ∧ t.a = g.2 s.a (s.load f.operand).1 ∧ NZ8 t t.a ∧
          ReadOperand s t f.operand ∧ Frame s t [.a] [.n, .z] []

/-- In every memory form, with its opcode, BIT completes: Z says whether A AND m is 0, N and V are bits 7 and 6 of
m, for the byte m read; A, memory and all else stay. BIT # (0x89) completes: Z says whether A AND v is 0; N and
V are unchanged if BIT_IMM_NV is false and bits 7 and 6 of v if it is true; all else stays. (States R453, R454.) -/
def Obligations.BitTestResult : Prop :=
  (∀ (b : Byte) (w : Word) (s : State), ∀ f ∈ bitForms b w, f.instr.opcode = f.opcode ∧
    ∃ t, exec f.instr s = .next t ∧
      (t.flag .z = true ↔ s.a &&& (s.load (.mem f.operand)).1 = 0x00#8) ∧
      t.flag .n = (s.load (.mem f.operand)).1.getLsbD 7 ∧ t.flag .v = (s.load (.mem f.operand)).1.getLsbD 6 ∧
      ReadOperand s t (.mem f.operand) ∧ Frame s t [] [.n, .v, .z] []) ∧
  (∀ (v : Byte) (s : State), (Instr.bitImm v).opcode = 0x89#8 ∧
    ∃ t, exec (.bitImm v) s = .next t ∧ (t.flag .z = true ↔ s.a &&& v = 0x00#8) ∧
      (s.cfg.bitImmNV = false → t.flag .n = s.flag .n ∧ t.flag .v = s.flag .v) ∧
      (s.cfg.bitImmNV = true → t.flag .n = v.getLsbD 7 ∧ t.flag .v = v.getLsbD 6) ∧
      ReadOperand s t (.imm v) ∧ Frame s t [] [.n, .v, .z] [])

/-- In both forms, with its opcode, the instruction completes: the byte at the effective address becomes A OR m
(TSB), NOT A AND m (TRB), for the byte m read there, by one read and one write; Z says whether the byte written
is 0; A, the other flags, every other byte and all else stay. (States R455, R456.) -/
def Obligations.TestAndSetResetResult : Prop :=
  ∀ (b : Byte) (w : Word) (s : State),
    ∀ g ∈ [(tsbForms b w, fun a m : Byte => a ||| m), (trbForms b w, fun a m => ~~~a &&& m)],
      ∀ f ∈ g.1, f.instr.opcode = f.opcode ∧
        let r := g.2 s.a (s.load (.mem f.operand)).1
        ∃ t, exec f.instr s = .next t ∧ (t.flag .z = true ↔ r = 0x00#8) ∧ StoredAt s t (.mem f.operand) [.z] r

/-- In every form, with its opcode, for the operand v: the result is v << 1 (ASL), v >> 1 (LSR), v << 1 with the old
C entering at bit 0 (ROL), v >> 1 with the old C entering at bit 7 (ROR), v >> 1 with bit 7 kept (ASR); C is the
bit shifted out, bit 7 for the left shifts and bit 0 for the right shifts; N and Z are set from the result; it
is stored in A or at the effective address; nothing else changes. (States R500, R501, R502, R503, R504.) -/
def Obligations.ByteShiftResult : Prop :=
  ∀ (b : Byte) (w : Word) (s : State),
    let c : Nat := (s.flag .c).toNat
    ∀ g ∈ [(aslForms b w, 7, fun v : Nat => v * 2 % 256), (lsrForms b w, 0, fun v => v / 2),
        (rolForms b w, 7, fun v => (v * 2 + c) % 256), (rorForms b w, 0, fun v => c * 128 + v / 2),
        (asrForms b, 0, fun v => v / 2 + v / 128 * 128)],
      ∀ f ∈ g.1, f.instr.opcode = f.opcode ∧
        let v := (s.load f.operand.source).1
        let r := BitVec.ofNat 8 (g.2.2 v.toNat)
        ∃ t, exec f.instr s = .next t ∧ t.flag .c = v.getLsbD g.2.1 ∧ NZ8 t r ∧
          StoredAt s t f.operand [.n, .z, .c] r

/-- ASW (0xCB) and ROW (0xEB) complete: for the word v read at ea and ea + 1, low byte first, the result is v << 1
modulo 2^16, for ROW with the old C entering at bit 0; C is bit 15 of v; N and Z are set from the 16-bit result;
it is written low byte first at ea and ea + 1 modulo 2^16; nothing else changes. (States R505, R506.) -/
def Obligations.WordShiftResult : Prop :=
  ∀ (w : Word) (s : State),
    ∀ g ∈ [(Instr.asw w, 0xCB#8, 0), (.row w, 0xEB#8, (s.flag .c).toNat)],
      g.1.opcode = g.2.1 ∧
      let v := ((s.advance 2).mem16 w).1
      let r := BitVec.ofNat 16 (v.toNat * 2 + g.2.2)
      ∃ t, exec g.1 s = .next t ∧ t.flag .c = v.getLsbD 15 ∧ NZ16 t r ∧
        StoredWordAt s ((s.advance 2).mem16 w).2 t w [.n, .z, .c] r

/-- For every n, RMBn (opcode 0x07 + 0x10 n) clears and SMBn (opcode 0x87 + 0x10 n) sets bit n of the base-page
byte, leaves its other bits, by one read and one write; no flag, no register, no other byte changes. (States
R550, R560.) -/
def Obligations.MemoryBitResult : Prop :=
  ∀ (b : Byte) (s : State),
    ∀ g ∈ [(rmbForms b, 0x07, false), (smbForms b, 0x87, true)],
      ∀ f ∈ g.1, f.instr.opcode = f.opcode ∧ f.opcode = BitVec.ofNat 8 (g.2.1 + 0x10 * f.operand) ∧
        let m := (s.load (.mem (.bp b))).1
        ∃ (t : State) (r : Byte), exec f.instr s = .next t ∧ StoredAt s t (.mem (.bp b)) [] r ∧
          ∀ k, r.getLsbD k = if k = f.operand then g.2.2 else m.getLsbD k

/-- The stack address of SP is 0x0100 + SP. Each push, with its opcode, away from the limit completes: the register
is written at the stack address by one write, SP is one less modulo 256, no flag and nothing else changes. At SP
= 0x00 with STACK_LIMIT = fault the byte is written at 0x0100, SP stays, the overflow is raised and nothing else
changes. (States R600, R601, R602, R603, R604, R430, R433.) -/
def Obligations.PushResult : Prop :=
  (∀ r : Byte, (stackAddr r).toNat = 0x0100 + r.toNat) ∧
  ∀ s : State, ∀ f ∈ pushForms, f.instr.opcode = f.opcode ∧
    (s.canPush 1 → ∃ t, exec f.instr s = .next t ∧ Completed s t ∧ t.sp = s.sp - 1#8 ∧ t.pc = s.pc ∧
      t.mem.read (stackAddr s.sp).toNat = f.operand s ∧ Frame s t [.sp] [] [stackAddr s.sp] ∧
      PortAfter s t [.write (stackAddr s.sp) (f.operand s)]) ∧
    (¬s.canPush 1 → ∃ t, exec f.instr s = .next t ∧ Raised s t .overflow ∧ t.pc = s.pc ∧
      t.mem.read 0x0100 = f.operand s ∧ Frame s t [] [] [0x0100#16] ∧
      PortAfter s t [.write 0x0100#16 (f.operand s)])

/-- PHW # (0xF4) pushes its operand, PHW abs (0xFC) the word it reads, low byte first, at its operand address before
it pushes. With room for two bytes it completes: the high byte at the stack address of SP, the low byte at that
of SP - 1, SP two less, PC past the operand. With STACK_LIMIT = fault, at SP = 0x00 the high byte is written, at
SP = 0x01 both are, SP is 0x00 and the overflow is raised. No flag and nothing else changes. (States R605,
R606.) -/
def Obligations.PushWordResult : Prop :=
  ∀ (w : Word) (s : State),
    ∀ g ∈ [(Instr.phwImm w, 0xF4#8, w, s.advance 2),
        (.phwAbs w, 0xFC#8, ((s.advance 2).mem16 w).1, ((s.advance 2).mem16 w).2)],
      g.1.opcode = g.2.1 ∧
      (s.canPush 2 → ∃ t, exec g.1 s = .next t ∧ t.pc = s.pc + 2#16 ∧ PushedWord s g.2.2.2 t g.2.2.1) ∧
      (¬s.canPush 2 → ∃ t, exec g.1 s = .next t ∧ t.pc = s.pc + 2#16 ∧ PushWordOverflowed s g.2.2.2 t g.2.2.1)

/-- Each pull, with its opcode, away from the limit completes: SP is one more modulo 256, the byte is read at the
new stack address; PLA, PLX, PLY, PLZ put it in their register and set N and Z from it; PLP (0x28) puts all
eight bits in P. At SP = 0xFF with STACK_LIMIT = fault nothing is read, SP, the register and the flags stay, and
the underflow is raised. Nothing else changes, no byte of memory among it. (States R607, R608, R609, R610, R611,
R431.) -/
def Obligations.PullResult : Prop :=
  ∀ s : State,
    (s.canPull 1 →
      (∀ f ∈ pullForms, f.instr.opcode = f.opcode ∧
        ∃ t, exec f.instr s = .next t ∧ t.reg f.operand = s.pulled 0 ∧ NZ8 t (s.pulled 0) ∧ t.sp = s.sp + 1#8 ∧
          t.pc = s.pc ∧ Completed s t ∧ PortAfter (s.afterPulls 1) t [] ∧
          Frame s t [.sp, f.operand] [.n, .z] []) ∧
      (Instr.plp.opcode = 0x28#8 ∧ ∃ t, exec .plp s = .next t ∧ t.p = s.pulled 0 ∧ t.sp = s.sp + 1#8 ∧
        t.pc = s.pc ∧ Completed s t ∧ PortAfter (s.afterPulls 1) t [] ∧ Frame s t [.sp] allFlags [])) ∧
    (¬s.canPull 1 →
      ∀ i ∈ [Instr.pla, .plx, .ply, .plz, .plp], ∃ t, exec i s = .next t ∧ Raised s t .underflow ∧
        t.pc = s.pc ∧ PortAfter s t [] ∧ Frame s t [] [] [])

/-- TSY, TSX, TAX, TAY, TAZ, TXA, TYA, TZA, each with its opcode, complete: the destination becomes the source, N
and Z are set from it. TYS and TXS complete: SP becomes Y, X, and no flag changes. No memory access, nothing
else changes. (States R650, R651, R652, R653, R654, R655, R656, R657, R658, R659.) -/
def Obligations.TransferResult : Prop :=
  ∀ s : State,
    (∀ f ∈ transferForms, f.instr.opcode = f.opcode ∧
      ∃ t, exec f.instr s = .next t ∧ t.reg f.operand.1 = s.reg f.operand.2 ∧ NZ8 t (s.reg f.operand.2) ∧
        t.pc = s.pc ∧ Completed s t ∧ PortAfter s t [] ∧ Frame s t [f.operand.1] [.n, .z] []) ∧
    (∀ f ∈ stackTransferForms, f.instr.opcode = f.opcode ∧
      ∃ t, exec f.instr s = .next t ∧ t.sp = s.reg f.operand ∧
        t.pc = s.pc ∧ Completed s t ∧ PortAfter s t [] ∧ Frame s t [.sp] [] [])

/-- Outside IMPLEMENTED, TAB (0x5B) and TBA (0x7B) append one Unimplemented diagnostic with the address of their
opcode and change nothing else. In a configuration that implements it, TAB changes nothing, and TBA makes A 0x00
and sets N and Z from it; nothing else changes. (States R660, R661.) -/
def Obligations.BasePageTransferResult : Prop :=
  ∀ s : State, Instr.tab.opcode = 0x5B#8 ∧ Instr.tba.opcode = 0x7B#8 ∧
    (∀ i ∈ [Instr.tab, .tba], s.cfg.implements i.opcode = false →
      exec i s = .next { s with diag := s.diag ++ [⟨.unimplemented, i.opcode, s.pc - 1#16⟩] }) ∧
    (s.cfg.implements 0x5B#8 = true → exec .tab s = .next s) ∧
    (s.cfg.implements 0x7B#8 = true → ∃ t, exec .tba s = .next t ∧ t.a = 0x00#8 ∧ NZ8 t 0x00#8 ∧ t.pc = s.pc ∧
      Completed s t ∧ PortAfter s t [] ∧ Frame s t [.a] [.n, .z] [])

/-- In every form, with its opcode, INC completes with the operand plus 1 modulo 256, DEC with the operand minus 1
modulo 256, stored in A or at the effective address; N and Z are set from it; C, V and all else stay. (States
R700, R704.) -/
def Obligations.IncrementDecrementResult : Prop :=
  ∀ (b : Byte) (w : Word) (s : State), ∀ g ∈ [(incForms b w, 1), (decForms b w, 255)],
    ∀ f ∈ g.1, f.instr.opcode = f.opcode ∧
      let r := BitVec.ofNat 8 ((s.load f.operand.source).1.toNat + g.2)
      ∃ t, exec f.instr s = .next t ∧ NZ8 t r ∧ StoredAt s t f.operand [.n, .z] r

/-- Each increment, with its opcode, adds 1 to its register, each decrement subtracts 1, modulo 256; NEG (0x42)
makes A its two's complement, (0 - A) modulo 256. N and Z are set from the result; C, V, memory and all else
stay. (States R701, R702, R703, R705, R706, R707, R869.) -/
def Obligations.RegisterArithmeticResult : Prop :=
  ∀ s : State,
    (∀ g ∈ [(incrementForms, 1), (decrementForms, 255)], ∀ f ∈ g.1, f.instr.opcode = f.opcode ∧
      ∃ t, exec f.instr s = .next t ∧ (t.reg f.operand).toNat = ((s.reg f.operand).toNat + g.2) % 256 ∧
        NZ8 t (t.reg f.operand) ∧ t.pc = s.pc ∧ Completed s t ∧ PortAfter s t [] ∧
        Frame s t [f.operand] [.n, .z] []) ∧
    Instr.neg.opcode = 0x42#8 ∧
    ∃ t, exec .neg s = .next t ∧ t.a.toNat = (256 - s.a.toNat) % 256 ∧ NZ8 t t.a ∧ t.pc = s.pc ∧ Completed s t ∧
      PortAfter s t [] ∧ Frame s t [.a] [.n, .z] []

/-- INW (0xE3) and DEW (0xC3) complete: the word read at the base-page address and the next, low byte first, plus or
minus 1 modulo 2^16, is written back low byte first; N and Z are set from the 16-bit result; nothing else
changes. (States R708, R709.) -/
def Obligations.WordIncrementResult : Prop :=
  ∀ (b : Byte) (s : State), ∀ g ∈ [(Instr.inw b, 0xE3#8, 1), (.dew b, 0xC3#8, 65535)],
    g.1.opcode = g.2.1 ∧
    let v := ((s.advance 1).mem16 (zext b)).1
    let r := BitVec.ofNat 16 (v.toNat + g.2.2)
    ∃ t, exec g.1 s = .next t ∧ NZ16 t r ∧ StoredWordAt s ((s.advance 1).mem16 (zext b)).2 t (zext b) [.n, .z] r

/-- In both forms, with its opcode, each of BPL, BMI, BVC, BVS, BCC, BCS, BNE, BEQ branches exactly when its flag
has its value, BRU always. Taken, PC is the address after the displacement plus the signed displacement, modulo
2^16; not taken, PC is the address after the displacement. No flag, no port operation, nothing else changes.
(States R750, R751, R752, R753, R754, R755, R756, R757, R758, R759.) -/
def Obligations.BranchResult : Prop :=
  ∀ (d : Byte) (w : Word) (s : State), ∀ f ∈ branchForms d w, f.instr.opcode = f.opcode ∧
    ∃ t, exec f.instr s = .next t ∧ Completed s t ∧ PortAfter s t [] ∧ Frame s t [] [] [] ∧
      t.pc = (if branchTaken s f.operand.2
        then (s.relTarget f.operand.1).1 else (s.relTarget f.operand.1).2.pc)

/-- For every n, BBRn (opcode 0x0F + 0x10 n) branches exactly when bit n of the base-page byte is 0, BBSn (0x8F +
0x10 n) when it is 1: PC is then the address after both operand bytes plus the signed displacement, modulo 2^16,
otherwise that address. The byte is read once; no flag and nothing else changes. (States R760, R770.) -/
def Obligations.BitBranchResult : Prop :=
  ∀ (b d : Byte) (s : State), ∀ g ∈ [(bbrForms b d, 0x0F, false), (bbsForms b d, 0x8F, true)],
    ∀ f ∈ g.1, f.instr.opcode = f.opcode ∧ f.opcode = BitVec.ofNat 8 (g.2.1 + 0x10 * f.operand) ∧
      let m := s.portByte (zext b)
      ∃ t, exec f.instr s = .next t ∧ Completed s t ∧ PortAfter (s.afterRead (zext b)) t [] ∧ Frame s t [] [] [] ∧
        (m.getLsbD f.operand = g.2.2 → (t.pc.toNat : Int) = ((s.pc + 2#16).toNat + d.toInt) % 65536) ∧
        (m.getLsbD f.operand ≠ g.2.2 → t.pc = s.pc + 2#16)

/-- In its three forms, with its opcode, JMP completes: PC is the effective address of its mode, whose pointer, if
any, is read; no flag, no byte of memory and nothing else changes. (States R780.) -/
def Obligations.JumpResult : Prop :=
  ∀ (w : Word) (s : State), ∀ f ∈ jmpForms w, f.instr.opcode = f.opcode ∧
    ∃ t, exec f.instr s = .next t ∧ t.pc = (s.ea f.operand).1 ∧ Completed s t ∧
      PortAfter (s.ea f.operand).2 t [] ∧ Frame s t [] [] []

/-- In their four forms, with their opcode: the target, and the pointer it needs, is read first; the address of the
last byte of the instruction is pushed, high byte first. With room for two bytes PC is then the target. On the
overflow PC is the address after the instruction and the jump does not happen. No flag and nothing else changes.
(States R781, R782.) -/
def Obligations.CallResult : Prop :=
  ∀ (w : Word) (s : State), ∀ f ∈ callForms w, f.instr.opcode = f.opcode ∧
    let u := (f.operand s).2
    (s.canPush 2 → ∃ t, exec f.instr s = .next t ∧ t.pc = (f.operand s).1 ∧ PushedWord s u t (s.pc + 1#16)) ∧
    (¬s.canPush 2 → ∃ t, exec f.instr s = .next t ∧ t.pc = s.pc + 2#16 ∧ PushWordOverflowed s u t (s.pc + 1#16))

/-- RTS (0x60) with two bytes to pull completes: PC is the word pulled, low byte first, plus 1 modulo 2^16, SP is
two more. At SP = 0xFF with STACK_LIMIT = fault nothing changes but the underflow raised; at SP = 0xFE one byte
is read and SP is 0xFF, PC stays, and the underflow is raised. No flag, no byte of memory and nothing else
changes. (States R783.) -/
def Obligations.ReturnResult : Prop :=
  ∀ s : State, Instr.rts.opcode = 0x60#8 ∧
    (s.canPull 2 → ∃ t, exec .rts s = .next t ∧ t.pc = s.pulledWord 0 + 1#16 ∧ t.sp = s.sp + 2#8 ∧
      Completed s t ∧ PortAfter (s.afterPulls 2) t [] ∧ Frame s t [.sp] [] []) ∧
    (¬s.canPull 2 → ∃ t, exec .rts s = .next t ∧ Raised s t .underflow ∧ t.pc = s.pc ∧ t.sp = 0xFF#8 ∧
      Frame s t [.sp] [] [] ∧ (s.sp = 0xFF#8 → PortAfter s t []) ∧
      (s.sp = 0xFE#8 → PortAfter (s.afterPulls 1) t []))

/-- RTN #n (0x62) with two bytes to pull and SP + 2 + n not past 0xFF, or with STACK_LIMIT = wrap, completes: PC is
the word pulled plus 1, SP is SP + 2 + n modulo 256. With two bytes to pull but the sum past 0xFF under
STACK_LIMIT = fault, PC is set, SP is two more, and the underflow is raised. Without two bytes to pull it stops
as RTS does, PC past the operand byte. Nothing else changes. (States R784.) -/
def Obligations.ReturnAndReleaseResult : Prop :=
  ∀ (n : Byte) (s : State), (Instr.rtn n).opcode = 0x62#8 ∧
    (s.canPull (2 + n.toNat) → ∃ t, exec (.rtn n) s = .next t ∧ t.pc = s.pulledWord 0 + 1#16 ∧
      t.sp = s.sp + 2#8 + n ∧ Completed s t ∧ PortAfter (s.afterPulls 2) t [] ∧ Frame s t [.sp] [] []) ∧
    (s.canPull 2 → ¬s.canPull (2 + n.toNat) → ∃ t, exec (.rtn n) s = .next t ∧ Raised s t .underflow ∧
      t.pc = s.pulledWord 0 + 1#16 ∧ t.sp = s.sp + 2#8 ∧ PortAfter (s.afterPulls 2) t [] ∧ Frame s t [.sp] [] []) ∧
    (¬s.canPull 2 → ∃ t, exec (.rtn n) s = .next t ∧ Raised s t .underflow ∧ t.pc = s.pc + 1#16 ∧ t.sp = 0xFF#8 ∧
      Frame s t [.sp] [] [] ∧ (s.sp = 0xFF#8 → PortAfter s t []) ∧
      (s.sp = 0xFE#8 → PortAfter (s.afterPulls 1) t []))

/-- RTI (0x40) with three bytes to pull completes: P is the first byte pulled, all eight bits, PC the word pulled
next, low byte first, with no + 1, SP is three more. At SP = 0xFF with STACK_LIMIT = fault nothing changes but
the underflow raised; at SP = 0xFE or 0xFD P is loaded, PC stays, SP is 0xFF, and the underflow is raised.
Nothing else changes. (States R785.) -/
def Obligations.ReturnFromInterruptResult : Prop :=
  ∀ s : State, Instr.rti.opcode = 0x40#8 ∧
    (s.canPull 3 → ∃ t, exec .rti s = .next t ∧ t.p = s.pulled 0 ∧ t.pc = s.pulledWord 1 ∧ t.sp = s.sp + 3#8 ∧
      Completed s t ∧ PortAfter (s.afterPulls 3) t [] ∧ Frame s t [.sp] allFlags []) ∧
    (¬s.canPull 3 → ∃ t, exec .rti s = .next t ∧ Raised s t .underflow ∧ t.pc = s.pc ∧ t.sp = 0xFF#8 ∧
      Frame s t [.sp] allFlags [] ∧ PortAfter (s.afterPulls (0xFF - s.sp.toNat)) t [] ∧
      t.p = (if s.sp = 0xFF#8 then s.p else s.pulled 0))

/-- With room for two bytes and a stack page of plain RAM, after JSR or BSR in any of its four forms, RTS executed
with the memory and SP the call left, wherever PC stands, completes with PC the address after the call and SP
the value before it; registers and flags are those before the call, and memory is that before the call but for
the two stack bytes. (Rests on R434, R781, R782, R783.) -/
def Obligations.CallThenReturn : Prop :=
  ∀ (w : Word) (s : State), s.canPush 2 → s.stackIsRam → ∀ f ∈ callForms w,
    ∃ t, exec f.instr s = .next t ∧
      ∀ q : Word, ∃ u, exec .rts (t.setPc q) = .next u ∧ u.pc = s.pc + 2#16 ∧ u.sp = s.sp ∧ Completed s u ∧
        Frame s u [] [] [stackAddr s.sp, stackAddr (s.sp - 1#8)]

/-- CLC, SEC, CLI, SEI, CLD, SED, CLV, CLE, SEE, each with its opcode, complete: the named flag takes its value;
every other flag, every register, memory and all else stay. (States R800, R801, R802, R803, R804, R805, R806,
R807, R808.) -/
def Obligations.FlagInstructionResult : Prop :=
  ∀ s : State, ∀ f ∈ flagForms, f.instr.opcode = f.opcode ∧
    ∃ t, exec f.instr s = .next t ∧ t.flag f.operand.1 = f.operand.2 ∧ t.pc = s.pc ∧ Completed s t ∧
      PortAfter s t [] ∧ Frame s t [] [f.operand.1] []

/-- BRK (0x00) completes and does not trap: one byte skipped unread, B set, a Break diagnostic with opcode 0x00 and
the address of the opcode; SP, memory, the other flags and all else stay. NOP (0xEA) changes nothing. AUG (0x5C)
moves PC past its three operand bytes, unread, and changes nothing else. (States R810, R811, R812.) -/
def Obligations.BreakAndNoOperationResult : Prop :=
  ∀ s : State,
    (Instr.brk.opcode = 0x00#8 ∧ ∃ t, exec .brk s = .next t ∧ t.pc = s.pc + 1#16 ∧ t.flag .b = true ∧
      t.diag = s.diag ++ [⟨.break_, 0x00#8, s.pc - 1#16⟩] ∧ t.faulted = s.faulted ∧ t.lastResult = s.lastResult ∧
      PortAfter s t [] ∧ Frame s t [] [.b] []) ∧
    (Instr.nop.opcode = 0xEA#8 ∧ exec .nop s = .next s) ∧
    (Instr.aug.opcode = 0x5C#8 ∧ exec .aug s = .next { s with pc := s.pc + 3#16 })

/-- In every form, with its opcode, the load completes: its register becomes the operand, read as its mode says; N
and Z are set from it; nothing else changes, no byte of memory among it. (States R850, R851, R852, R853.) -/
def Obligations.LoadResult : Prop :=
  ∀ (v b d : Byte) (w : Word) (s : State),
    ∀ g ∈ [(ldaForms v b d w, Reg.a), (ldxForms v b w, .x), (ldyForms v b w, .y), (ldzForms v w, .z)],
      ∀ f ∈ g.1, f.instr.opcode = f.opcode ∧
        ∃ t, exec f.instr s = .next t ∧ t.reg g.2 = (s.load f.operand).1 ∧ NZ8 t (s.load f.operand).1 ∧
          ReadOperand s t f.operand ∧ Frame s t [g.2] [.n, .z] []

/-- In every form, with its opcode, the store completes: its register is written at the effective address of its
mode by one write; the target byte is not read; no flag, no register, no other byte and nothing else changes.
(States R854, R855, R856, R857.) -/
def Obligations.StoreResult : Prop :=
  ∀ (b d : Byte) (w : Word) (s : State),
    ∀ g ∈ [(staForms b d w, Reg.a), (stxForms b w, .x), (styForms b w, .y), (stzForms b w, .z)],
      ∀ f ∈ g.1, f.instr.opcode = f.opcode ∧
        let ea := (s.ea f.operand).1
        ∃ t, exec f.instr s = .next t ∧ t.mem.read ea.toNat = s.reg g.2 ∧ Frame s t [] [] [ea] ∧ Completed s t ∧
          t.pc = (s.ea f.operand).2.pc ∧ PortAfter (s.ea f.operand).2 t [.write ea (s.reg g.2)]

/-- In every form, with its opcode, ADC completes: N and Z are set from the new A, nothing but A, N, V, Z, C
changes, whatever DECIMAL_MODEL is. With D = 0 the sum of A, the operand and C modulo 256 is the new A, C says
whether the sum passed 0xFF, V is the sign rule of the spec and also says whether the signed sum left -128..127.
With D = 1 and DECIMAL_MODEL = c02, A, C and V are those of the decimal addition of the spec. (With D = 1 and
DECIMAL_MODEL = open, that N and Z follow the new A and that nothing else changes is the model's choice, log
entry 9.) (Rests on R860, R862.) -/
def Obligations.AdcResult : Prop :=
  ∀ (v b : Byte) (w : Word) (s : State), ∀ f ∈ adcForms v b w, f.instr.opcode = f.opcode ∧
    let m := (s.load f.operand).1
    let c : Nat := (s.flag .c).toNat
    ∃ t, exec f.instr s = .next t ∧ NZ8 t t.a ∧ ReadOperand s t f.operand ∧ Frame s t [.a] [.n, .v, .z, .c] [] ∧
      (s.flag .d = false →
        let sum := s.a.toNat + m.toNat + c
        let r := BitVec.ofNat 8 sum
        t.a = r ∧ (t.flag .c = true ↔ sum > 0xFF) ∧
        (t.flag .v = true ↔ (s.a ^^^ r) &&& (m ^^^ r) &&& 0x80#8 ≠ 0x00#8) ∧
        (t.flag .v = true ↔ s.a.toInt + m.toInt + c < -128 ∨ s.a.toInt + m.toInt + c > 127)) ∧
      (s.flag .d = true → s.cfg.decimalModel = .c02 →
        let al := (s.a &&& 0x0F#8).toNat + (m &&& 0x0F#8).toNat + c
        let al := if al ≥ 0x0A then (al + 0x06) % 16 + 0x10 else al
        let sum := (s.a &&& 0xF0#8).toNat + (m &&& 0xF0#8).toNat + al
        let signed := (s.a &&& 0xF0#8).toInt + (m &&& 0xF0#8).toInt + al
        let fixed := if sum ≥ 0xA0 then sum + 0x60 else sum
        t.a = BitVec.ofNat 8 fixed ∧ (t.flag .c = true ↔ fixed ≥ 0x100) ∧
        (t.flag .v = true ↔ signed < -128 ∨ signed > 127))

/-- In every form, with its opcode, SBC completes: N and Z are set from the new A, nothing but A, N, V, Z, C
changes, whatever DECIMAL_MODEL is. With D = 0 the new A is A - M - (1 - C) modulo 256, C says whether A - M -
(1 - C) is not negative, V is the sign rule of the spec and also says whether the signed difference left
-128..127. With D = 1 and DECIMAL_MODEL = c02, C and V are those of the binary subtraction and A is that of the
decimal subtraction of the spec. (With D = 1 and DECIMAL_MODEL = open, that N and Z follow the new A and that
nothing else changes is the model's choice, log entry 9.) (Rests on R861, R863.) -/
def Obligations.SbcResult : Prop :=
  ∀ (v b : Byte) (w : Word) (s : State), ∀ f ∈ sbcForms v b w, f.instr.opcode = f.opcode ∧
    let m := (s.load f.operand).1
    let c : Nat := (s.flag .c).toNat
    let bin := s.a.toNat + (~~~m).toNat + c
    let r := BitVec.ofNat 8 bin
    ∃ t, exec f.instr s = .next t ∧ NZ8 t t.a ∧ ReadOperand s t f.operand ∧ Frame s t [.a] [.n, .v, .z, .c] [] ∧
      (s.flag .d = false →
        t.a = r ∧ t.a = BitVec.ofInt 8 (s.a.toNat - m.toNat - (1 - c : Int)) ∧
        (t.flag .c = true ↔ bin > 0xFF) ∧ (t.flag .c = true ↔ (s.a.toNat : Int) - m.toNat - (1 - c : Int) ≥ 0) ∧
        (t.flag .v = true ↔ (s.a ^^^ r) &&& (~~~m ^^^ r) &&& 0x80#8 ≠ 0x00#8) ∧
        (t.flag .v = true ↔
          s.a.toInt - m.toInt - (1 - c : Int) < -128 ∨ s.a.toInt - m.toInt - (1 - c : Int) > 127)) ∧
      (s.flag .d = true → s.cfg.decimalModel = .c02 →
        let al : Int := (s.a &&& 0x0F#8).toNat - (m &&& 0x0F#8).toNat + c - 1
        let d : Int := s.a.toNat - m.toNat + c - 1
        let d := if d < 0 then d - 0x60 else d
        let d := if al < 0 then d - 0x06 else d
        t.a = BitVec.ofInt 8 d ∧ (t.flag .c = true ↔ bin > 0xFF) ∧
        (t.flag .v = true ↔ (s.a ^^^ r) &&& (~~~m ^^^ r) &&& 0x80#8 ≠ 0x00#8))

/-- With D = 1, DECIMAL_MODEL = c02, A the packed BCD of x and the operand that of y, both below 100: ADC in every
form completes with A the packed BCD of x + y + C modulo 100, and C says whether x + y + C reached 100; SBC
completes with A the packed BCD of x - y - (1 - C) modulo 100, and C says whether that difference is not
negative. (Rests on R862, R863, R870.) -/
def Obligations.DecimalArithmeticIsDecimal : Prop :=
  ∀ (v b : Byte) (w : Word) (s : State) (x y : Nat), s.flag .d = true → s.cfg.decimalModel = .c02 →
    x < 100 → y < 100 → s.a = bcd x →
    let c : Nat := (s.flag .c).toNat
    (∀ f ∈ adcForms v b w, (s.load f.operand).1 = bcd y →
      ∃ t, exec f.instr s = .next t ∧ t.a = bcd ((x + y + c) % 100) ∧ (t.flag .c = true ↔ x + y + c ≥ 100)) ∧
    (∀ f ∈ sbcForms v b w, (s.load f.operand).1 = bcd y →
      ∃ t, exec f.instr s = .next t ∧ t.a = bcd ((x + 99 + c - y) % 100) ∧ (t.flag .c = true ↔ x + c ≥ y + 1))

/-- In every form, with its opcode, the compare completes: C says whether the register is at least the operand,
unsigned; N and Z are set from the register minus the operand modulo 256; V, D, the registers, memory and all
else stay; decimal mode does not matter. (States R864, R865, R866, R867, R868.) -/
def Obligations.CompareResult : Prop :=
  ∀ (v b : Byte) (w : Word) (s : State),
    ∀ g ∈ [(cmpForms v b w, Reg.a), (cpxForms v b w, .x), (cpyForms v b w, .y), (cpzForms v b w, .z)],
      ∀ f ∈ g.1, f.instr.opcode = f.opcode ∧
        let m := (s.load f.operand).1
        ∃ t, exec f.instr s = .next t ∧ (t.flag .c = true ↔ m.toNat ≤ (s.reg g.2).toNat) ∧
          NZ8 t (BitVec.ofNat 8 (256 + (s.reg g.2).toNat - m.toNat)) ∧ ReadOperand s t f.operand ∧
          Frame s t [] [.n, .z, .c] []

/-- For every address 0..15 and value 0..255 the write succeeds. Reading that register back gives the value, every
other register what it gave. Of the derived state only what the register owns is recomputed, by the spec's
formulas: the tone step of A, B, C for registers 0 and 1, 2 and 3, 4 and 5, ((high << 8) | low) << STEP_BIAS;
the noise step for 6, the larger of R[6] << STEP_BIAS and the base step; the six gates for 7, enabled where
their bit is 0; volume and envelope enable of A, B, C for 8, 9, 10. The counters, the seed, the clock, the base
step and the buffer stay. (States R902, R904, R126.) -/
def Obligations.RegisterWriteResult : Prop :=
  ∀ (p : Psg) (address value : Nat), (ha : address < 16) → value < 256 →
    ∃ q, p.writeRegister address value = .ok q ∧ q.readRegister address = .ok (BitVec.ofNat 8 value) ∧
      (∀ other : Nat, other ≠ address → q.readRegister other = p.readRegister other) ∧
      (∀ g ∈ [(Channel.a, 0, 1, 8, 0), (.b, 2, 3, 9, 1), (.c, 4, 5, 10, 2)],
        let low := (q.regs.toList.getD g.2.1 0#8).toNat
        let high := (q.regs.toList.getD g.2.2.1 0#8).toNat
        let level := q.regs.toList.getD g.2.2.2.1 0#8
        let mixer := q.regs.toList.getD 7 0#8
        q.toneStep.get g.1 = (if address = g.2.1 ∨ address = g.2.2.1
          then (high * 256 + low) * 2 ^ p.cfg.stepBias else p.toneStep.get g.1) ∧
        q.volume.get g.1 = (if address = g.2.2.2.1
          then p.cfg.volumeTable.toList.getD (level.toNat % 16 * 2) 0 * 2 ^ p.cfg.volumeBias
          else p.volume.get g.1) ∧
        q.envEnable.get g.1 = (if address = g.2.2.2.1 then level.getLsbD 4 else p.envEnable.get g.1) ∧
        q.toneGate.get g.1 = (if address = 7 then !mixer.getLsbD g.2.2.2.2 else p.toneGate.get g.1) ∧
        q.noiseGate.get g.1 = (if address = 7 then !mixer.getLsbD (g.2.2.2.2 + 3) else p.noiseGate.get g.1)) ∧
      q.noiseStep = (if address = 6
        then max ((q.regs.toList.getD 6 0#8).toNat * 2 ^ p.cfg.stepBias) p.baseStep else p.noiseStep) ∧
      q.clock = p.clock ∧ q.baseStep = p.baseStep ∧ q.toneCount = p.toneCount ∧ q.active = p.active ∧
      q.noiseCount = p.noiseCount ∧ q.seed = p.seed ∧ q.bufferLength = p.bufferLength ∧ q.buffer = p.buffer ∧
      q.cfg = p.cfg

/-- A write or read at an address outside 0..15 returns BadAddress, whatever the value; a write of a value outside
0..255 at a good address BadValue; setClock of a number not positive BadClock; setBufferLength or generate of a
negative count BadLength; generate of a count whose whole pairs need more slots than the buffer has
BufferTooSmall. The machine state after the call is the state before it. (States R918.) -/
def Obligations.RejectedCallsChangeNothing : Prop :=
  ∀ (s : State) (address value n : Int),
    (address < 0 ∨ 16 ≤ address →
      hostCall (.psgWriteRegister address value) s = (.invalidArgument .badAddress, s) ∧
      hostCall (.psgReadRegister address) s = (.invalidArgument .badAddress, s)) ∧
    (0 ≤ address → address < 16 → value < 0 ∨ 256 ≤ value →
      hostCall (.psgWriteRegister address value) s = (.invalidArgument .badValue, s)) ∧
    (n ≤ 0 → hostCall (.psgSetClock n) s = (.invalidArgument .badClock, s)) ∧
    (n < 0 → hostCall (.psgSetBufferLength n) s = (.invalidArgument .badLength, s) ∧
      hostCall (.psgGenerate n) s = (.invalidArgument .badLength, s)) ∧
    (0 ≤ n → (s.psg.bufferLength : Int) < 2 * (n / 2) →
      hostCall (.psgGenerate n) s = (.invalidArgument .bufferTooSmall, s))

/-- setClock of a positive hz sets the clock to hz and the base step to floor(hz * 2^STEP_BIAS / (8 * SAMPLE_RATE))
and changes nothing else. setBufferLength of n not negative sets the length to n and the buffer to n slots of 0
and changes nothing else. getBuffer returns the slots and changes nothing. (States R905, R906, R907.) -/
def Obligations.ClockAndBufferCalls : Prop :=
  ∀ s : State,
    (∀ hz : Nat, 0 < hz → hostCall (.psgSetClock hz) s = (.ok, { s with psg := { s.psg with
      clock := hz
      baseStep := hz * 2 ^ s.psg.cfg.stepBias / (8 * s.psg.cfg.sampleRate.val) } }) ∧
      hostCall (.psgSetClock 0) s = (.invalidArgument .badClock, s)) ∧
    (∀ n : Nat, hostCall (.psgSetBufferLength n) s = (.ok, { s with psg := { s.psg with
      bufferLength := n
      buffer := List.replicate n 0x0000#16 } })) ∧
    hostCall .psgGetBuffer s = (.samples s.psg.buffer, s)

/-- With a buffer of at least two slots, generate(2) and generate(3) succeed alike. The noise counter gains the base
step; if it then exceeds the noise step it is reduced by it and the LFSR steps, else the seed stays. Each
channel's counter gains the base step; if it then exceeds the tone step it is reduced by it and the channel
toggles, else it keeps its state. The mixed sum is that of the volumes of the channels whose tone gate is
enabled and that are active, or whose noise gate is enabled while bit 0 of the new seed is 1. Slots 0 and 1 hold
that sum if it is at most 32767, else one same value of which nothing is said; every other slot and all else
stay. (With a base step of 0 and a counter already past its step, that the channel toggles and the LFSR steps is
the model's choice, log entry 21; that generate(2) and generate(3) store the same value for a sum above 32767 is
the model's choice too, log entry 10.) (Rests on R908, R909, R910, R911, R912, R913, R914.) -/
def Obligations.GenerateOnePair : Prop :=
  ∀ p : Psg, 2 ≤ p.bufferLength → p.buffer.length = p.bufferLength →
    ∃ q, p.generate 2 = .ok q ∧ p.generate 3 = .ok q ∧
      (if p.noiseCount + p.baseStep > p.noiseStep
        then q.seed = lfsrNext p.cfg.noiseTap p.seed ∧ q.noiseCount = p.noiseCount + p.baseStep - p.noiseStep
        else q.seed = p.seed ∧ q.noiseCount = p.noiseCount + p.baseStep) ∧
      (∀ ch, if p.toneCount.get ch + p.baseStep > p.toneStep.get ch
        then q.active.get ch = !p.active.get ch ∧
          q.toneCount.get ch = p.toneCount.get ch + p.baseStep - p.toneStep.get ch
        else q.active.get ch = p.active.get ch ∧ q.toneCount.get ch = p.toneCount.get ch + p.baseStep) ∧
      (let sounds := fun ch => (p.toneGate.get ch && q.active.get ch) || (p.noiseGate.get ch && q.seed.getLsbD 0)
        let s := (([Channel.a, .b, .c].filter sounds).map p.volume.get).sum
        ∃ v : Sample, (s ≤ 32767 → v = BitVec.ofNat 16 s) ∧ q.buffer = v :: v :: p.buffer.drop 2) ∧
      q.regs = p.regs ∧ q.clock = p.clock ∧ q.baseStep = p.baseStep ∧ q.toneStep = p.toneStep ∧
      q.noiseStep = p.noiseStep ∧ q.toneGate = p.toneGate ∧ q.noiseGate = p.noiseGate ∧ q.volume = p.volume ∧
      q.envEnable = p.envEnable ∧ q.bufferLength = p.bufferLength ∧ q.cfg = p.cfg

/-- With a buffer that holds them, generate(2(m + n)) and generate(2(m + n) + 1) succeed alike; the counters, the
seed and the channel states it leaves are those of generate(2m) followed by generate(2n); its first 2m slots are
those of generate(2m), the next 2n slots are the first 2n of that second call as long as neither meets an open
sample value, and the slots after them are those before the call. generate(0) and generate(1) change nothing.
(Where a sum is above 32767 the spec leaves the slot open; that the calls compared, the even and the odd count
and the first 2m slots of the long and the short one, then store the same value is the model's choice, log entry
10: the free value is a function of the draw counter.) (Rests on R908, R914.) -/
def Obligations.GenerateInOrder : Prop :=
  (∀ (p : Psg) (m n : Nat), 2 * (m + n) ≤ p.bufferLength → p.buffer.length = p.bufferLength →
    ∃ q q1 q2, p.generate (2 * (m + n) : Nat) = .ok q ∧ p.generate (2 * (m + n) + 1 : Nat) = .ok q ∧
      p.generate (2 * m : Nat) = .ok q1 ∧ q1.generate (2 * n : Nat) = .ok q2 ∧
      q.toneCount = q2.toneCount ∧ q.active = q2.active ∧ q.noiseCount = q2.noiseCount ∧ q.seed = q2.seed ∧
      q.buffer.length = p.buffer.length ∧ q.buffer.take (2 * m) = q1.buffer.take (2 * m) ∧
      (q.sampleDraws = p.sampleDraws → (q.buffer.drop (2 * m)).take (2 * n) = q2.buffer.take (2 * n)) ∧
      q.buffer.drop (2 * (m + n)) = p.buffer.drop (2 * (m + n))) ∧
  ∀ p : Psg, p.generate 0 = .ok p ∧ p.generate 1 = .ok p

/-- In a PSG block that meets its invariant and whose mixer register has bits 0 to 5 all set, whatever its other
registers: every generate that its buffer holds succeeds and every slot it writes holds 0. (Rests on R913,
R919.) -/
def Obligations.DisabledGatesAreSilent : Prop :=
  ∀ p : Psg, PsgInv p → (∀ i < 6, p.regs[7].getLsbD i = true) →
    ∀ n : Nat, 2 * (n / 2) ≤ p.bufferLength →
      ∃ q, p.generate n = .ok q ∧ ∀ k < 2 * (n / 2), q.buffer[k]? = some 0x0000#16

/-- For every tap 1..15, the step moves every bit down by one and puts bit 0 XOR the tap bit at bit 15; a seed is
recovered from its successor by s[15:1] = t[14:0], s[0] = t[15] XOR t[tap - 1]; the successor of a seed is 0
exactly when the seed is 0. The tap of this hardware is 3; from its SEED_INIT, 0x0001, the first five seeds are
0x8000, 0x4000, 0x2000, 0x1000, 0x0800. (Rests on R11, R911.) -/
def Obligations.LfsrStep : Prop :=
  (∀ (tap : NoiseTap) (s : BitVec 16),
    (lfsrNext tap s).getLsbD 15 = (s.getLsbD 0 ^^ s.getLsbD tap.val) ∧
    (∀ k < 15, (lfsrNext tap s).getLsbD k = s.getLsbD (k + 1)) ∧
    s.getLsbD 0 = ((lfsrNext tap s).getLsbD 15 ^^ (lfsrNext tap s).getLsbD (tap.val - 1)) ∧
    (lfsrNext tap s = 0x0000#16 ↔ s = 0x0000#16)) ∧
  (∀ (tap : NoiseTap) (t : BitVec 16), ∃ s, lfsrNext tap s = t ∧ ∀ s', lfsrNext tap s' = t → s' = s) ∧
  Config.defaultPsg.noiseTap.val = 3 ∧ Config.defaultPsg.seedInit.val = 0x0001#16 ∧
  [1, 2, 3, 4, 5].map (fun k => (lfsrNext Config.defaultPsg.noiseTap)^[k] Config.defaultPsg.seedInit.val)
    = [0x8000#16, 0x4000#16, 0x2000#16, 0x1000#16, 0x0800#16]

/-- For a channel with tone step at least the base step and a positive base step, with no call between: as long as
it starts in 0..toneStep its counter stays there through any number of pairs; starting from 0, the number of
toggles in the first k pairs, k at least 1, is ceil(k * baseStep / toneStep) - 1. (Rests on R910, R919, R1111.) -/
def Obligations.ToneRate : Prop :=
  ∀ (p : Psg) (ch : Channel), 0 < p.baseStep → p.baseStep ≤ p.toneStep.get ch →
    (0 ≤ p.toneCount.get ch → p.toneCount.get ch ≤ p.toneStep.get ch → ∀ k,
      0 ≤ (p.generatePairs 0 k).toneCount.get ch ∧ (p.generatePairs 0 k).toneCount.get ch ≤ p.toneStep.get ch) ∧
    (p.toneCount.get ch = 0 → ∀ k, 1 ≤ k →
      p.toggles ch k = (k * p.baseStep + p.toneStep.get ch - 1) / p.toneStep.get ch - 1)

end
end

