-- ==== Sys2Proof/Laws/Bits.lean ====
section
/-! SUPPORT. Byte order and byte halves. -/

namespace Sys2Proof

@[simp] theorem wordOf_high_low (w : Word) : wordOf (highByte w) (lowByte w) = w := by
  unfold wordOf highByte lowByte
  exact BitVec.eq_of_toNat_eq (by
    simp only [BitVec.toNat_append, BitVec.extractLsb'_toNat]
    have := w.isLt
    rw [Nat.shiftLeft_eq_mul_pow, Nat.mul_comm, ← Nat.two_pow_add_eq_or_of_lt (by omega)]
    omega)

end Sys2Proof
end

