-- ==== Sys2Proof/Laws/State.lean ====
section
/-! SUPPORT. One lemma per field of State and per update: what each update leaves in each field. -/

namespace Sys2Proof.Machine

variable (s : State)

@[simp] theorem State.setA_a (v : Byte) : (s.setA v).a = v := rfl
@[simp] theorem State.setA_x (v : Byte) : (s.setA v).x = s.x := rfl
@[simp] theorem State.setA_y (v : Byte) : (s.setA v).y = s.y := rfl
@[simp] theorem State.setA_z (v : Byte) : (s.setA v).z = s.z := rfl
@[simp] theorem State.setA_sp (v : Byte) : (s.setA v).sp = s.sp := rfl
@[simp] theorem State.setA_p (v : Byte) : (s.setA v).p = s.p := rfl
@[simp] theorem State.setA_pc (v : Byte) : (s.setA v).pc = s.pc := rfl
@[simp] theorem State.setA_cyc (v : Byte) : (s.setA v).cyc = s.cyc := rfl
@[simp] theorem State.setA_bound (v : Byte) : (s.setA v).bound = s.bound := rfl
@[simp] theorem State.setA_faulted (v : Byte) : (s.setA v).faulted = s.faulted := rfl
@[simp] theorem State.setA_diag (v : Byte) : (s.setA v).diag = s.diag := rfl
@[simp] theorem State.setA_mem (v : Byte) : (s.setA v).mem = s.mem := rfl
@[simp] theorem State.setA_io (v : Byte) : (s.setA v).io = s.io := rfl
@[simp] theorem State.setA_ioDraws (v : Byte) : (s.setA v).ioDraws = s.ioDraws := rfl
@[simp] theorem State.setA_portOps (v : Byte) : (s.setA v).portOps = s.portOps := rfl
@[simp] theorem State.setA_lastResult (v : Byte) : (s.setA v).lastResult = s.lastResult := rfl
@[simp] theorem State.setA_cfg (v : Byte) : (s.setA v).cfg = s.cfg := rfl
@[simp] theorem State.setA_psg (v : Byte) : (s.setA v).psg = s.psg := rfl
@[simp] theorem State.setA_flag (v : Byte) (g : Flag) : (s.setA v).flag g = s.flag g := rfl
@[simp] theorem State.setA_isIo (v : Byte) (j : Word) : (s.setA v).isIo j = s.isIo j := rfl
@[simp] theorem State.setA_portByte (v : Byte) (j : Word) : (s.setA v).portByte j = s.portByte j := rfl

@[simp] theorem State.setX_a (v : Byte) : (s.setX v).a = s.a := rfl
@[simp] theorem State.setX_x (v : Byte) : (s.setX v).x = v := rfl
@[simp] theorem State.setX_y (v : Byte) : (s.setX v).y = s.y := rfl
@[simp] theorem State.setX_z (v : Byte) : (s.setX v).z = s.z := rfl
@[simp] theorem State.setX_sp (v : Byte) : (s.setX v).sp = s.sp := rfl
@[simp] theorem State.setX_p (v : Byte) : (s.setX v).p = s.p := rfl
@[simp] theorem State.setX_pc (v : Byte) : (s.setX v).pc = s.pc := rfl
@[simp] theorem State.setX_cyc (v : Byte) : (s.setX v).cyc = s.cyc := rfl
@[simp] theorem State.setX_bound (v : Byte) : (s.setX v).bound = s.bound := rfl
@[simp] theorem State.setX_faulted (v : Byte) : (s.setX v).faulted = s.faulted := rfl
@[simp] theorem State.setX_diag (v : Byte) : (s.setX v).diag = s.diag := rfl
@[simp] theorem State.setX_mem (v : Byte) : (s.setX v).mem = s.mem := rfl
@[simp] theorem State.setX_io (v : Byte) : (s.setX v).io = s.io := rfl
@[simp] theorem State.setX_ioDraws (v : Byte) : (s.setX v).ioDraws = s.ioDraws := rfl
@[simp] theorem State.setX_portOps (v : Byte) : (s.setX v).portOps = s.portOps := rfl
@[simp] theorem State.setX_lastResult (v : Byte) : (s.setX v).lastResult = s.lastResult := rfl
@[simp] theorem State.setX_cfg (v : Byte) : (s.setX v).cfg = s.cfg := rfl
@[simp] theorem State.setX_psg (v : Byte) : (s.setX v).psg = s.psg := rfl
@[simp] theorem State.setX_flag (v : Byte) (g : Flag) : (s.setX v).flag g = s.flag g := rfl
@[simp] theorem State.setX_isIo (v : Byte) (j : Word) : (s.setX v).isIo j = s.isIo j := rfl
@[simp] theorem State.setX_portByte (v : Byte) (j : Word) : (s.setX v).portByte j = s.portByte j := rfl

@[simp] theorem State.setY_a (v : Byte) : (s.setY v).a = s.a := rfl
@[simp] theorem State.setY_x (v : Byte) : (s.setY v).x = s.x := rfl
@[simp] theorem State.setY_y (v : Byte) : (s.setY v).y = v := rfl
@[simp] theorem State.setY_z (v : Byte) : (s.setY v).z = s.z := rfl
@[simp] theorem State.setY_sp (v : Byte) : (s.setY v).sp = s.sp := rfl
@[simp] theorem State.setY_p (v : Byte) : (s.setY v).p = s.p := rfl
@[simp] theorem State.setY_pc (v : Byte) : (s.setY v).pc = s.pc := rfl
@[simp] theorem State.setY_cyc (v : Byte) : (s.setY v).cyc = s.cyc := rfl
@[simp] theorem State.setY_bound (v : Byte) : (s.setY v).bound = s.bound := rfl
@[simp] theorem State.setY_faulted (v : Byte) : (s.setY v).faulted = s.faulted := rfl
@[simp] theorem State.setY_diag (v : Byte) : (s.setY v).diag = s.diag := rfl
@[simp] theorem State.setY_mem (v : Byte) : (s.setY v).mem = s.mem := rfl
@[simp] theorem State.setY_io (v : Byte) : (s.setY v).io = s.io := rfl
@[simp] theorem State.setY_ioDraws (v : Byte) : (s.setY v).ioDraws = s.ioDraws := rfl
@[simp] theorem State.setY_portOps (v : Byte) : (s.setY v).portOps = s.portOps := rfl
@[simp] theorem State.setY_lastResult (v : Byte) : (s.setY v).lastResult = s.lastResult := rfl
@[simp] theorem State.setY_cfg (v : Byte) : (s.setY v).cfg = s.cfg := rfl
@[simp] theorem State.setY_psg (v : Byte) : (s.setY v).psg = s.psg := rfl
@[simp] theorem State.setY_flag (v : Byte) (g : Flag) : (s.setY v).flag g = s.flag g := rfl
@[simp] theorem State.setY_isIo (v : Byte) (j : Word) : (s.setY v).isIo j = s.isIo j := rfl
@[simp] theorem State.setY_portByte (v : Byte) (j : Word) : (s.setY v).portByte j = s.portByte j := rfl

@[simp] theorem State.setZ_a (v : Byte) : (s.setZ v).a = s.a := rfl
@[simp] theorem State.setZ_x (v : Byte) : (s.setZ v).x = s.x := rfl
@[simp] theorem State.setZ_y (v : Byte) : (s.setZ v).y = s.y := rfl
@[simp] theorem State.setZ_z (v : Byte) : (s.setZ v).z = v := rfl
@[simp] theorem State.setZ_sp (v : Byte) : (s.setZ v).sp = s.sp := rfl
@[simp] theorem State.setZ_p (v : Byte) : (s.setZ v).p = s.p := rfl
@[simp] theorem State.setZ_pc (v : Byte) : (s.setZ v).pc = s.pc := rfl
@[simp] theorem State.setZ_cyc (v : Byte) : (s.setZ v).cyc = s.cyc := rfl
@[simp] theorem State.setZ_bound (v : Byte) : (s.setZ v).bound = s.bound := rfl
@[simp] theorem State.setZ_faulted (v : Byte) : (s.setZ v).faulted = s.faulted := rfl
@[simp] theorem State.setZ_diag (v : Byte) : (s.setZ v).diag = s.diag := rfl
@[simp] theorem State.setZ_mem (v : Byte) : (s.setZ v).mem = s.mem := rfl
@[simp] theorem State.setZ_io (v : Byte) : (s.setZ v).io = s.io := rfl
@[simp] theorem State.setZ_ioDraws (v : Byte) : (s.setZ v).ioDraws = s.ioDraws := rfl
@[simp] theorem State.setZ_portOps (v : Byte) : (s.setZ v).portOps = s.portOps := rfl
@[simp] theorem State.setZ_lastResult (v : Byte) : (s.setZ v).lastResult = s.lastResult := rfl
@[simp] theorem State.setZ_cfg (v : Byte) : (s.setZ v).cfg = s.cfg := rfl
@[simp] theorem State.setZ_psg (v : Byte) : (s.setZ v).psg = s.psg := rfl
@[simp] theorem State.setZ_flag (v : Byte) (g : Flag) : (s.setZ v).flag g = s.flag g := rfl
@[simp] theorem State.setZ_isIo (v : Byte) (j : Word) : (s.setZ v).isIo j = s.isIo j := rfl
@[simp] theorem State.setZ_portByte (v : Byte) (j : Word) : (s.setZ v).portByte j = s.portByte j := rfl

@[simp] theorem State.setSp_a (v : Byte) : (s.setSp v).a = s.a := rfl
@[simp] theorem State.setSp_x (v : Byte) : (s.setSp v).x = s.x := rfl
@[simp] theorem State.setSp_y (v : Byte) : (s.setSp v).y = s.y := rfl
@[simp] theorem State.setSp_z (v : Byte) : (s.setSp v).z = s.z := rfl
@[simp] theorem State.setSp_sp (v : Byte) : (s.setSp v).sp = v := rfl
@[simp] theorem State.setSp_p (v : Byte) : (s.setSp v).p = s.p := rfl
@[simp] theorem State.setSp_pc (v : Byte) : (s.setSp v).pc = s.pc := rfl
@[simp] theorem State.setSp_cyc (v : Byte) : (s.setSp v).cyc = s.cyc := rfl
@[simp] theorem State.setSp_bound (v : Byte) : (s.setSp v).bound = s.bound := rfl
@[simp] theorem State.setSp_faulted (v : Byte) : (s.setSp v).faulted = s.faulted := rfl
@[simp] theorem State.setSp_diag (v : Byte) : (s.setSp v).diag = s.diag := rfl
@[simp] theorem State.setSp_mem (v : Byte) : (s.setSp v).mem = s.mem := rfl
@[simp] theorem State.setSp_io (v : Byte) : (s.setSp v).io = s.io := rfl
@[simp] theorem State.setSp_ioDraws (v : Byte) : (s.setSp v).ioDraws = s.ioDraws := rfl
@[simp] theorem State.setSp_portOps (v : Byte) : (s.setSp v).portOps = s.portOps := rfl
@[simp] theorem State.setSp_lastResult (v : Byte) : (s.setSp v).lastResult = s.lastResult := rfl
@[simp] theorem State.setSp_cfg (v : Byte) : (s.setSp v).cfg = s.cfg := rfl
@[simp] theorem State.setSp_psg (v : Byte) : (s.setSp v).psg = s.psg := rfl
@[simp] theorem State.setSp_flag (v : Byte) (g : Flag) : (s.setSp v).flag g = s.flag g := rfl
@[simp] theorem State.setSp_isIo (v : Byte) (j : Word) : (s.setSp v).isIo j = s.isIo j := rfl
@[simp] theorem State.setSp_portByte (v : Byte) (j : Word) : (s.setSp v).portByte j = s.portByte j := rfl

@[simp] theorem State.setP_a (v : Byte) : (s.setP v).a = s.a := rfl
@[simp] theorem State.setP_x (v : Byte) : (s.setP v).x = s.x := rfl
@[simp] theorem State.setP_y (v : Byte) : (s.setP v).y = s.y := rfl
@[simp] theorem State.setP_z (v : Byte) : (s.setP v).z = s.z := rfl
@[simp] theorem State.setP_sp (v : Byte) : (s.setP v).sp = s.sp := rfl
@[simp] theorem State.setP_p (v : Byte) : (s.setP v).p = v := rfl
@[simp] theorem State.setP_pc (v : Byte) : (s.setP v).pc = s.pc := rfl
@[simp] theorem State.setP_cyc (v : Byte) : (s.setP v).cyc = s.cyc := rfl
@[simp] theorem State.setP_bound (v : Byte) : (s.setP v).bound = s.bound := rfl
@[simp] theorem State.setP_faulted (v : Byte) : (s.setP v).faulted = s.faulted := rfl
@[simp] theorem State.setP_diag (v : Byte) : (s.setP v).diag = s.diag := rfl
@[simp] theorem State.setP_mem (v : Byte) : (s.setP v).mem = s.mem := rfl
@[simp] theorem State.setP_io (v : Byte) : (s.setP v).io = s.io := rfl
@[simp] theorem State.setP_ioDraws (v : Byte) : (s.setP v).ioDraws = s.ioDraws := rfl
@[simp] theorem State.setP_portOps (v : Byte) : (s.setP v).portOps = s.portOps := rfl
@[simp] theorem State.setP_lastResult (v : Byte) : (s.setP v).lastResult = s.lastResult := rfl
@[simp] theorem State.setP_cfg (v : Byte) : (s.setP v).cfg = s.cfg := rfl
@[simp] theorem State.setP_psg (v : Byte) : (s.setP v).psg = s.psg := rfl
@[simp] theorem State.setP_isIo (v : Byte) (j : Word) : (s.setP v).isIo j = s.isIo j := rfl
@[simp] theorem State.setP_portByte (v : Byte) (j : Word) : (s.setP v).portByte j = s.portByte j := rfl

@[simp] theorem State.setPc_a (w : Word) : (s.setPc w).a = s.a := rfl
@[simp] theorem State.setPc_x (w : Word) : (s.setPc w).x = s.x := rfl
@[simp] theorem State.setPc_y (w : Word) : (s.setPc w).y = s.y := rfl
@[simp] theorem State.setPc_z (w : Word) : (s.setPc w).z = s.z := rfl
@[simp] theorem State.setPc_sp (w : Word) : (s.setPc w).sp = s.sp := rfl
@[simp] theorem State.setPc_p (w : Word) : (s.setPc w).p = s.p := rfl
@[simp] theorem State.setPc_pc (w : Word) : (s.setPc w).pc = w := rfl
@[simp] theorem State.setPc_cyc (w : Word) : (s.setPc w).cyc = s.cyc := rfl
@[simp] theorem State.setPc_bound (w : Word) : (s.setPc w).bound = s.bound := rfl
@[simp] theorem State.setPc_faulted (w : Word) : (s.setPc w).faulted = s.faulted := rfl
@[simp] theorem State.setPc_diag (w : Word) : (s.setPc w).diag = s.diag := rfl
@[simp] theorem State.setPc_mem (w : Word) : (s.setPc w).mem = s.mem := rfl
@[simp] theorem State.setPc_io (w : Word) : (s.setPc w).io = s.io := rfl
@[simp] theorem State.setPc_ioDraws (w : Word) : (s.setPc w).ioDraws = s.ioDraws := rfl
@[simp] theorem State.setPc_portOps (w : Word) : (s.setPc w).portOps = s.portOps := rfl
@[simp] theorem State.setPc_lastResult (w : Word) : (s.setPc w).lastResult = s.lastResult := rfl
@[simp] theorem State.setPc_cfg (w : Word) : (s.setPc w).cfg = s.cfg := rfl
@[simp] theorem State.setPc_psg (w : Word) : (s.setPc w).psg = s.psg := rfl
@[simp] theorem State.setPc_flag (w : Word) (g : Flag) : (s.setPc w).flag g = s.flag g := rfl
@[simp] theorem State.setPc_isIo (w : Word) (j : Word) : (s.setPc w).isIo j = s.isIo j := rfl
@[simp] theorem State.setPc_portByte (w : Word) (j : Word) : (s.setPc w).portByte j = s.portByte j := rfl

@[simp] theorem State.advance_a (n : Nat) : (s.advance n).a = s.a := rfl
@[simp] theorem State.advance_x (n : Nat) : (s.advance n).x = s.x := rfl
@[simp] theorem State.advance_y (n : Nat) : (s.advance n).y = s.y := rfl
@[simp] theorem State.advance_z (n : Nat) : (s.advance n).z = s.z := rfl
@[simp] theorem State.advance_sp (n : Nat) : (s.advance n).sp = s.sp := rfl
@[simp] theorem State.advance_p (n : Nat) : (s.advance n).p = s.p := rfl
@[simp] theorem State.advance_pc (n : Nat) : (s.advance n).pc = s.pc + BitVec.ofNat 16 n := rfl
@[simp] theorem State.advance_cyc (n : Nat) : (s.advance n).cyc = s.cyc := rfl
@[simp] theorem State.advance_bound (n : Nat) : (s.advance n).bound = s.bound := rfl
@[simp] theorem State.advance_faulted (n : Nat) : (s.advance n).faulted = s.faulted := rfl
@[simp] theorem State.advance_diag (n : Nat) : (s.advance n).diag = s.diag := rfl
@[simp] theorem State.advance_mem (n : Nat) : (s.advance n).mem = s.mem := rfl
@[simp] theorem State.advance_io (n : Nat) : (s.advance n).io = s.io := rfl
@[simp] theorem State.advance_ioDraws (n : Nat) : (s.advance n).ioDraws = s.ioDraws := rfl
@[simp] theorem State.advance_portOps (n : Nat) : (s.advance n).portOps = s.portOps := rfl
@[simp] theorem State.advance_lastResult (n : Nat) : (s.advance n).lastResult = s.lastResult := rfl
@[simp] theorem State.advance_cfg (n : Nat) : (s.advance n).cfg = s.cfg := rfl
@[simp] theorem State.advance_psg (n : Nat) : (s.advance n).psg = s.psg := rfl
@[simp] theorem State.advance_flag (n : Nat) (g : Flag) : (s.advance n).flag g = s.flag g := rfl
@[simp] theorem State.advance_isIo (n : Nat) (j : Word) : (s.advance n).isIo j = s.isIo j := rfl
@[simp] theorem State.advance_portByte (n : Nat) (j : Word) : (s.advance n).portByte j = s.portByte j := rfl

@[simp] theorem State.afterRead_a (i : Word) : (s.afterRead i).a = s.a := rfl
@[simp] theorem State.afterRead_x (i : Word) : (s.afterRead i).x = s.x := rfl
@[simp] theorem State.afterRead_y (i : Word) : (s.afterRead i).y = s.y := rfl
@[simp] theorem State.afterRead_z (i : Word) : (s.afterRead i).z = s.z := rfl
@[simp] theorem State.afterRead_sp (i : Word) : (s.afterRead i).sp = s.sp := rfl
@[simp] theorem State.afterRead_p (i : Word) : (s.afterRead i).p = s.p := rfl
@[simp] theorem State.afterRead_pc (i : Word) : (s.afterRead i).pc = s.pc := rfl
@[simp] theorem State.afterRead_cyc (i : Word) : (s.afterRead i).cyc = s.cyc := rfl
@[simp] theorem State.afterRead_bound (i : Word) : (s.afterRead i).bound = s.bound := rfl
@[simp] theorem State.afterRead_faulted (i : Word) : (s.afterRead i).faulted = s.faulted := rfl
@[simp] theorem State.afterRead_diag (i : Word) : (s.afterRead i).diag = s.diag := rfl
@[simp] theorem State.afterRead_mem (i : Word) : (s.afterRead i).mem = s.mem := rfl
@[simp] theorem State.afterRead_io (i : Word) : (s.afterRead i).io = s.io := rfl
@[simp] theorem State.afterRead_ioDraws (i : Word) : (s.afterRead i).ioDraws = if s.isIo i then s.ioDraws + 1 else s.ioDraws := rfl
@[simp] theorem State.afterRead_portOps (i : Word) : (s.afterRead i).portOps = s.portOps ++ [.read i (s.portByte i)] := rfl
@[simp] theorem State.afterRead_lastResult (i : Word) : (s.afterRead i).lastResult = s.lastResult := rfl
@[simp] theorem State.afterRead_cfg (i : Word) : (s.afterRead i).cfg = s.cfg := rfl
@[simp] theorem State.afterRead_psg (i : Word) : (s.afterRead i).psg = s.psg := rfl
@[simp] theorem State.afterRead_flag (i : Word) (g : Flag) : (s.afterRead i).flag g = s.flag g := rfl
@[simp] theorem State.afterRead_isIo (i : Word) (j : Word) : (s.afterRead i).isIo j = s.isIo j := rfl

@[simp] theorem State.memWrite_a (i : Word) (v : Byte) : (s.memWrite i v).a = s.a := rfl
@[simp] theorem State.memWrite_x (i : Word) (v : Byte) : (s.memWrite i v).x = s.x := rfl
@[simp] theorem State.memWrite_y (i : Word) (v : Byte) : (s.memWrite i v).y = s.y := rfl
@[simp] theorem State.memWrite_z (i : Word) (v : Byte) : (s.memWrite i v).z = s.z := rfl
@[simp] theorem State.memWrite_sp (i : Word) (v : Byte) : (s.memWrite i v).sp = s.sp := rfl
@[simp] theorem State.memWrite_p (i : Word) (v : Byte) : (s.memWrite i v).p = s.p := rfl
@[simp] theorem State.memWrite_pc (i : Word) (v : Byte) : (s.memWrite i v).pc = s.pc := rfl
@[simp] theorem State.memWrite_cyc (i : Word) (v : Byte) : (s.memWrite i v).cyc = s.cyc := rfl
@[simp] theorem State.memWrite_bound (i : Word) (v : Byte) : (s.memWrite i v).bound = s.bound := rfl
@[simp] theorem State.memWrite_faulted (i : Word) (v : Byte) : (s.memWrite i v).faulted = s.faulted := rfl
@[simp] theorem State.memWrite_diag (i : Word) (v : Byte) : (s.memWrite i v).diag = s.diag := rfl
@[simp] theorem State.memWrite_mem (i : Word) (v : Byte) : (s.memWrite i v).mem = s.mem.write i.toNat v := rfl
@[simp] theorem State.memWrite_io (i : Word) (v : Byte) : (s.memWrite i v).io = s.io := rfl
@[simp] theorem State.memWrite_ioDraws (i : Word) (v : Byte) : (s.memWrite i v).ioDraws = s.ioDraws := rfl
@[simp] theorem State.memWrite_portOps (i : Word) (v : Byte) : (s.memWrite i v).portOps = s.portOps ++ [.write i v] := rfl
@[simp] theorem State.memWrite_lastResult (i : Word) (v : Byte) : (s.memWrite i v).lastResult = s.lastResult := rfl
@[simp] theorem State.memWrite_cfg (i : Word) (v : Byte) : (s.memWrite i v).cfg = s.cfg := rfl
@[simp] theorem State.memWrite_psg (i : Word) (v : Byte) : (s.memWrite i v).psg = s.psg := rfl
@[simp] theorem State.memWrite_flag (i : Word) (v : Byte) (g : Flag) : (s.memWrite i v).flag g = s.flag g := rfl
@[simp] theorem State.memWrite_isIo (i : Word) (v : Byte) (j : Word) : (s.memWrite i v).isIo j = s.isIo j := rfl

@[simp] theorem State.emit_a (k : DiagKind) (op : Byte) (i : Word) : (s.emit k op i).a = s.a := rfl
@[simp] theorem State.emit_x (k : DiagKind) (op : Byte) (i : Word) : (s.emit k op i).x = s.x := rfl
@[simp] theorem State.emit_y (k : DiagKind) (op : Byte) (i : Word) : (s.emit k op i).y = s.y := rfl
@[simp] theorem State.emit_z (k : DiagKind) (op : Byte) (i : Word) : (s.emit k op i).z = s.z := rfl
@[simp] theorem State.emit_sp (k : DiagKind) (op : Byte) (i : Word) : (s.emit k op i).sp = s.sp := rfl
@[simp] theorem State.emit_p (k : DiagKind) (op : Byte) (i : Word) : (s.emit k op i).p = s.p := rfl
@[simp] theorem State.emit_pc (k : DiagKind) (op : Byte) (i : Word) : (s.emit k op i).pc = s.pc := rfl
@[simp] theorem State.emit_cyc (k : DiagKind) (op : Byte) (i : Word) : (s.emit k op i).cyc = s.cyc := rfl
@[simp] theorem State.emit_bound (k : DiagKind) (op : Byte) (i : Word) : (s.emit k op i).bound = s.bound := rfl
@[simp] theorem State.emit_faulted (k : DiagKind) (op : Byte) (i : Word) : (s.emit k op i).faulted = s.faulted := rfl
@[simp] theorem State.emit_diag (k : DiagKind) (op : Byte) (i : Word) : (s.emit k op i).diag = s.diag ++ [⟨k, op, i⟩] := rfl
@[simp] theorem State.emit_mem (k : DiagKind) (op : Byte) (i : Word) : (s.emit k op i).mem = s.mem := rfl
@[simp] theorem State.emit_io (k : DiagKind) (op : Byte) (i : Word) : (s.emit k op i).io = s.io := rfl
@[simp] theorem State.emit_ioDraws (k : DiagKind) (op : Byte) (i : Word) : (s.emit k op i).ioDraws = s.ioDraws := rfl
@[simp] theorem State.emit_portOps (k : DiagKind) (op : Byte) (i : Word) : (s.emit k op i).portOps = s.portOps := rfl
@[simp] theorem State.emit_lastResult (k : DiagKind) (op : Byte) (i : Word) : (s.emit k op i).lastResult = s.lastResult := rfl
@[simp] theorem State.emit_cfg (k : DiagKind) (op : Byte) (i : Word) : (s.emit k op i).cfg = s.cfg := rfl
@[simp] theorem State.emit_psg (k : DiagKind) (op : Byte) (i : Word) : (s.emit k op i).psg = s.psg := rfl
@[simp] theorem State.emit_flag (k : DiagKind) (op : Byte) (i : Word) (g : Flag) : (s.emit k op i).flag g = s.flag g := rfl
@[simp] theorem State.emit_isIo (k : DiagKind) (op : Byte) (i : Word) (j : Word) : (s.emit k op i).isIo j = s.isIo j := rfl
@[simp] theorem State.emit_portByte (k : DiagKind) (op : Byte) (i : Word) (j : Word) : (s.emit k op i).portByte j = s.portByte j := rfl

@[simp] theorem State.charge_a (op : Byte) : (s.charge op).a = s.a := rfl
@[simp] theorem State.charge_x (op : Byte) : (s.charge op).x = s.x := rfl
@[simp] theorem State.charge_y (op : Byte) : (s.charge op).y = s.y := rfl
@[simp] theorem State.charge_z (op : Byte) : (s.charge op).z = s.z := rfl
@[simp] theorem State.charge_sp (op : Byte) : (s.charge op).sp = s.sp := rfl
@[simp] theorem State.charge_p (op : Byte) : (s.charge op).p = s.p := rfl
@[simp] theorem State.charge_pc (op : Byte) : (s.charge op).pc = s.pc := rfl
@[simp] theorem State.charge_cyc (op : Byte) : (s.charge op).cyc = s.cyc + s.cfg.cost[op.toNat]'(op.isLt) := rfl
@[simp] theorem State.charge_bound (op : Byte) : (s.charge op).bound = s.bound := rfl
@[simp] theorem State.charge_faulted (op : Byte) : (s.charge op).faulted = s.faulted := rfl
@[simp] theorem State.charge_diag (op : Byte) : (s.charge op).diag = s.diag := rfl
@[simp] theorem State.charge_mem (op : Byte) : (s.charge op).mem = s.mem := rfl
@[simp] theorem State.charge_io (op : Byte) : (s.charge op).io = s.io := rfl
@[simp] theorem State.charge_ioDraws (op : Byte) : (s.charge op).ioDraws = s.ioDraws := rfl
@[simp] theorem State.charge_portOps (op : Byte) : (s.charge op).portOps = s.portOps := rfl
@[simp] theorem State.charge_lastResult (op : Byte) : (s.charge op).lastResult = s.lastResult := rfl
@[simp] theorem State.charge_cfg (op : Byte) : (s.charge op).cfg = s.cfg := rfl
@[simp] theorem State.charge_psg (op : Byte) : (s.charge op).psg = s.psg := rfl
@[simp] theorem State.charge_flag (op : Byte) (g : Flag) : (s.charge op).flag g = s.flag g := rfl
@[simp] theorem State.charge_isIo (op : Byte) (j : Word) : (s.charge op).isIo j = s.isIo j := rfl
@[simp] theorem State.charge_portByte (op : Byte) (j : Word) : (s.charge op).portByte j = s.portByte j := rfl

@[simp] theorem State.beginStep_a : s.beginStep.a = s.a := rfl
@[simp] theorem State.beginStep_x : s.beginStep.x = s.x := rfl
@[simp] theorem State.beginStep_y : s.beginStep.y = s.y := rfl
@[simp] theorem State.beginStep_z : s.beginStep.z = s.z := rfl
@[simp] theorem State.beginStep_sp : s.beginStep.sp = s.sp := rfl
@[simp] theorem State.beginStep_p : s.beginStep.p = s.p := rfl
@[simp] theorem State.beginStep_pc : s.beginStep.pc = s.pc := rfl
@[simp] theorem State.beginStep_cyc : s.beginStep.cyc = s.cyc := rfl
@[simp] theorem State.beginStep_bound : s.beginStep.bound = s.bound := rfl
@[simp] theorem State.beginStep_faulted : s.beginStep.faulted = s.faulted := rfl
@[simp] theorem State.beginStep_diag : s.beginStep.diag = s.diag := rfl
@[simp] theorem State.beginStep_mem : s.beginStep.mem = s.mem := rfl
@[simp] theorem State.beginStep_io : s.beginStep.io = s.io := rfl
@[simp] theorem State.beginStep_ioDraws : s.beginStep.ioDraws = s.ioDraws := rfl
@[simp] theorem State.beginStep_portOps : s.beginStep.portOps = [] := rfl
@[simp] theorem State.beginStep_lastResult : s.beginStep.lastResult = .ok := rfl
@[simp] theorem State.beginStep_cfg : s.beginStep.cfg = s.cfg := rfl
@[simp] theorem State.beginStep_psg : s.beginStep.psg = s.psg := rfl
@[simp] theorem State.beginStep_flag (g : Flag) : s.beginStep.flag g = s.flag g := rfl
@[simp] theorem State.beginStep_isIo (j : Word) : s.beginStep.isIo j = s.isIo j := rfl
@[simp] theorem State.beginStep_portByte (j : Word) : s.beginStep.portByte j = s.portByte j := rfl

@[simp] theorem State.raiseStackFault_a (k : StackFaultKind) : (s.raiseStackFault k).a = s.a := rfl
@[simp] theorem State.raiseStackFault_x (k : StackFaultKind) : (s.raiseStackFault k).x = s.x := rfl
@[simp] theorem State.raiseStackFault_y (k : StackFaultKind) : (s.raiseStackFault k).y = s.y := rfl
@[simp] theorem State.raiseStackFault_z (k : StackFaultKind) : (s.raiseStackFault k).z = s.z := rfl
@[simp] theorem State.raiseStackFault_sp (k : StackFaultKind) : (s.raiseStackFault k).sp = s.sp := rfl
@[simp] theorem State.raiseStackFault_p (k : StackFaultKind) : (s.raiseStackFault k).p = s.p := rfl
@[simp] theorem State.raiseStackFault_pc (k : StackFaultKind) : (s.raiseStackFault k).pc = s.pc := rfl
@[simp] theorem State.raiseStackFault_cyc (k : StackFaultKind) : (s.raiseStackFault k).cyc = s.cyc := rfl
@[simp] theorem State.raiseStackFault_bound (k : StackFaultKind) : (s.raiseStackFault k).bound = s.bound := rfl
@[simp] theorem State.raiseStackFault_faulted (k : StackFaultKind) : (s.raiseStackFault k).faulted = true := rfl
@[simp] theorem State.raiseStackFault_diag (k : StackFaultKind) : (s.raiseStackFault k).diag = s.diag := rfl
@[simp] theorem State.raiseStackFault_mem (k : StackFaultKind) : (s.raiseStackFault k).mem = s.mem := rfl
@[simp] theorem State.raiseStackFault_io (k : StackFaultKind) : (s.raiseStackFault k).io = s.io := rfl
@[simp] theorem State.raiseStackFault_ioDraws (k : StackFaultKind) : (s.raiseStackFault k).ioDraws = s.ioDraws := rfl
@[simp] theorem State.raiseStackFault_portOps (k : StackFaultKind) : (s.raiseStackFault k).portOps = s.portOps := rfl
@[simp] theorem State.raiseStackFault_lastResult (k : StackFaultKind) : (s.raiseStackFault k).lastResult = .stackFault k := rfl
@[simp] theorem State.raiseStackFault_cfg (k : StackFaultKind) : (s.raiseStackFault k).cfg = s.cfg := rfl
@[simp] theorem State.raiseStackFault_psg (k : StackFaultKind) : (s.raiseStackFault k).psg = s.psg := rfl
@[simp] theorem State.raiseStackFault_flag (k : StackFaultKind) (g : Flag) : (s.raiseStackFault k).flag g = s.flag g := rfl
@[simp] theorem State.raiseStackFault_isIo (k : StackFaultKind) (j : Word) : (s.raiseStackFault k).isIo j = s.isIo j := rfl
@[simp] theorem State.raiseStackFault_portByte (k : StackFaultKind) (j : Word) : (s.raiseStackFault k).portByte j = s.portByte j := rfl

@[simp] theorem State.unimplemented_a (op : Byte) : (s.unimplemented op).a = s.a := rfl
@[simp] theorem State.unimplemented_x (op : Byte) : (s.unimplemented op).x = s.x := rfl
@[simp] theorem State.unimplemented_y (op : Byte) : (s.unimplemented op).y = s.y := rfl
@[simp] theorem State.unimplemented_z (op : Byte) : (s.unimplemented op).z = s.z := rfl
@[simp] theorem State.unimplemented_sp (op : Byte) : (s.unimplemented op).sp = s.sp := rfl
@[simp] theorem State.unimplemented_p (op : Byte) : (s.unimplemented op).p = s.p := rfl
@[simp] theorem State.unimplemented_pc (op : Byte) : (s.unimplemented op).pc = s.pc + BitVec.ofNat 16 (opcodeLength op - 1) := rfl
@[simp] theorem State.unimplemented_cyc (op : Byte) : (s.unimplemented op).cyc = s.cyc := rfl
@[simp] theorem State.unimplemented_bound (op : Byte) : (s.unimplemented op).bound = s.bound := rfl
@[simp] theorem State.unimplemented_faulted (op : Byte) : (s.unimplemented op).faulted = s.faulted := rfl
@[simp] theorem State.unimplemented_diag (op : Byte) : (s.unimplemented op).diag = s.diag ++ [⟨.unimplemented, op, s.pc - 1#16⟩] := rfl
@[simp] theorem State.unimplemented_mem (op : Byte) : (s.unimplemented op).mem = s.mem := rfl
@[simp] theorem State.unimplemented_io (op : Byte) : (s.unimplemented op).io = s.io := rfl
@[simp] theorem State.unimplemented_ioDraws (op : Byte) : (s.unimplemented op).ioDraws = s.ioDraws := rfl
@[simp] theorem State.unimplemented_portOps (op : Byte) : (s.unimplemented op).portOps = s.portOps := rfl
@[simp] theorem State.unimplemented_lastResult (op : Byte) : (s.unimplemented op).lastResult = s.lastResult := rfl
@[simp] theorem State.unimplemented_cfg (op : Byte) : (s.unimplemented op).cfg = s.cfg := rfl
@[simp] theorem State.unimplemented_psg (op : Byte) : (s.unimplemented op).psg = s.psg := rfl
@[simp] theorem State.unimplemented_flag (op : Byte) (g : Flag) : (s.unimplemented op).flag g = s.flag g := rfl
@[simp] theorem State.unimplemented_isIo (op : Byte) (j : Word) : (s.unimplemented op).isIo j = s.isIo j := rfl
@[simp] theorem State.unimplemented_portByte (op : Byte) (j : Word) : (s.unimplemented op).portByte j = s.portByte j := rfl

@[simp] theorem State.setFlag_a (f : Flag) (v : Bool) : (s.setFlag f v).a = s.a := rfl
@[simp] theorem State.setFlag_x (f : Flag) (v : Bool) : (s.setFlag f v).x = s.x := rfl
@[simp] theorem State.setFlag_y (f : Flag) (v : Bool) : (s.setFlag f v).y = s.y := rfl
@[simp] theorem State.setFlag_z (f : Flag) (v : Bool) : (s.setFlag f v).z = s.z := rfl
@[simp] theorem State.setFlag_sp (f : Flag) (v : Bool) : (s.setFlag f v).sp = s.sp := rfl
@[simp] theorem State.setFlag_pc (f : Flag) (v : Bool) : (s.setFlag f v).pc = s.pc := rfl
@[simp] theorem State.setFlag_cyc (f : Flag) (v : Bool) : (s.setFlag f v).cyc = s.cyc := rfl
@[simp] theorem State.setFlag_bound (f : Flag) (v : Bool) : (s.setFlag f v).bound = s.bound := rfl
@[simp] theorem State.setFlag_faulted (f : Flag) (v : Bool) : (s.setFlag f v).faulted = s.faulted := rfl
@[simp] theorem State.setFlag_diag (f : Flag) (v : Bool) : (s.setFlag f v).diag = s.diag := rfl
@[simp] theorem State.setFlag_mem (f : Flag) (v : Bool) : (s.setFlag f v).mem = s.mem := rfl
@[simp] theorem State.setFlag_io (f : Flag) (v : Bool) : (s.setFlag f v).io = s.io := rfl
@[simp] theorem State.setFlag_ioDraws (f : Flag) (v : Bool) : (s.setFlag f v).ioDraws = s.ioDraws := rfl
@[simp] theorem State.setFlag_portOps (f : Flag) (v : Bool) : (s.setFlag f v).portOps = s.portOps := rfl
@[simp] theorem State.setFlag_lastResult (f : Flag) (v : Bool) : (s.setFlag f v).lastResult = s.lastResult := rfl
@[simp] theorem State.setFlag_cfg (f : Flag) (v : Bool) : (s.setFlag f v).cfg = s.cfg := rfl
@[simp] theorem State.setFlag_psg (f : Flag) (v : Bool) : (s.setFlag f v).psg = s.psg := rfl
@[simp] theorem State.setFlag_isIo (f : Flag) (v : Bool) (j : Word) : (s.setFlag f v).isIo j = s.isIo j := rfl
@[simp] theorem State.setFlag_portByte (f : Flag) (v : Bool) (j : Word) : (s.setFlag f v).portByte j = s.portByte j := rfl

@[simp] theorem State.setNZ8_a (v : Byte) : (s.setNZ8 v).a = s.a := rfl
@[simp] theorem State.setNZ8_x (v : Byte) : (s.setNZ8 v).x = s.x := rfl
@[simp] theorem State.setNZ8_y (v : Byte) : (s.setNZ8 v).y = s.y := rfl
@[simp] theorem State.setNZ8_z (v : Byte) : (s.setNZ8 v).z = s.z := rfl
@[simp] theorem State.setNZ8_sp (v : Byte) : (s.setNZ8 v).sp = s.sp := rfl
@[simp] theorem State.setNZ8_pc (v : Byte) : (s.setNZ8 v).pc = s.pc := rfl
@[simp] theorem State.setNZ8_cyc (v : Byte) : (s.setNZ8 v).cyc = s.cyc := rfl
@[simp] theorem State.setNZ8_bound (v : Byte) : (s.setNZ8 v).bound = s.bound := rfl
@[simp] theorem State.setNZ8_faulted (v : Byte) : (s.setNZ8 v).faulted = s.faulted := rfl
@[simp] theorem State.setNZ8_diag (v : Byte) : (s.setNZ8 v).diag = s.diag := rfl
@[simp] theorem State.setNZ8_mem (v : Byte) : (s.setNZ8 v).mem = s.mem := rfl
@[simp] theorem State.setNZ8_io (v : Byte) : (s.setNZ8 v).io = s.io := rfl
@[simp] theorem State.setNZ8_ioDraws (v : Byte) : (s.setNZ8 v).ioDraws = s.ioDraws := rfl
@[simp] theorem State.setNZ8_portOps (v : Byte) : (s.setNZ8 v).portOps = s.portOps := rfl
@[simp] theorem State.setNZ8_lastResult (v : Byte) : (s.setNZ8 v).lastResult = s.lastResult := rfl
@[simp] theorem State.setNZ8_cfg (v : Byte) : (s.setNZ8 v).cfg = s.cfg := rfl
@[simp] theorem State.setNZ8_psg (v : Byte) : (s.setNZ8 v).psg = s.psg := rfl
@[simp] theorem State.setNZ8_isIo (v : Byte) (j : Word) : (s.setNZ8 v).isIo j = s.isIo j := rfl
@[simp] theorem State.setNZ8_portByte (v : Byte) (j : Word) : (s.setNZ8 v).portByte j = s.portByte j := rfl

@[simp] theorem State.setNZ16_a (w : Word) : (s.setNZ16 w).a = s.a := rfl
@[simp] theorem State.setNZ16_x (w : Word) : (s.setNZ16 w).x = s.x := rfl
@[simp] theorem State.setNZ16_y (w : Word) : (s.setNZ16 w).y = s.y := rfl
@[simp] theorem State.setNZ16_z (w : Word) : (s.setNZ16 w).z = s.z := rfl
@[simp] theorem State.setNZ16_sp (w : Word) : (s.setNZ16 w).sp = s.sp := rfl
@[simp] theorem State.setNZ16_pc (w : Word) : (s.setNZ16 w).pc = s.pc := rfl
@[simp] theorem State.setNZ16_cyc (w : Word) : (s.setNZ16 w).cyc = s.cyc := rfl
@[simp] theorem State.setNZ16_bound (w : Word) : (s.setNZ16 w).bound = s.bound := rfl
@[simp] theorem State.setNZ16_faulted (w : Word) : (s.setNZ16 w).faulted = s.faulted := rfl
@[simp] theorem State.setNZ16_diag (w : Word) : (s.setNZ16 w).diag = s.diag := rfl
@[simp] theorem State.setNZ16_mem (w : Word) : (s.setNZ16 w).mem = s.mem := rfl
@[simp] theorem State.setNZ16_io (w : Word) : (s.setNZ16 w).io = s.io := rfl
@[simp] theorem State.setNZ16_ioDraws (w : Word) : (s.setNZ16 w).ioDraws = s.ioDraws := rfl
@[simp] theorem State.setNZ16_portOps (w : Word) : (s.setNZ16 w).portOps = s.portOps := rfl
@[simp] theorem State.setNZ16_lastResult (w : Word) : (s.setNZ16 w).lastResult = s.lastResult := rfl
@[simp] theorem State.setNZ16_cfg (w : Word) : (s.setNZ16 w).cfg = s.cfg := rfl
@[simp] theorem State.setNZ16_psg (w : Word) : (s.setNZ16 w).psg = s.psg := rfl
@[simp] theorem State.setNZ16_isIo (w : Word) (j : Word) : (s.setNZ16 w).isIo j = s.isIo j := rfl
@[simp] theorem State.setNZ16_portByte (w : Word) (j : Word) : (s.setNZ16 w).portByte j = s.portByte j := rfl

@[simp] theorem State.setAlu_a (o : AluOut) : (s.setAlu o).a = o.value := rfl
@[simp] theorem State.setAlu_x (o : AluOut) : (s.setAlu o).x = s.x := rfl
@[simp] theorem State.setAlu_y (o : AluOut) : (s.setAlu o).y = s.y := rfl
@[simp] theorem State.setAlu_z (o : AluOut) : (s.setAlu o).z = s.z := rfl
@[simp] theorem State.setAlu_sp (o : AluOut) : (s.setAlu o).sp = s.sp := rfl
@[simp] theorem State.setAlu_pc (o : AluOut) : (s.setAlu o).pc = s.pc := rfl
@[simp] theorem State.setAlu_cyc (o : AluOut) : (s.setAlu o).cyc = s.cyc := rfl
@[simp] theorem State.setAlu_bound (o : AluOut) : (s.setAlu o).bound = s.bound := rfl
@[simp] theorem State.setAlu_faulted (o : AluOut) : (s.setAlu o).faulted = s.faulted := rfl
@[simp] theorem State.setAlu_diag (o : AluOut) : (s.setAlu o).diag = s.diag := rfl
@[simp] theorem State.setAlu_mem (o : AluOut) : (s.setAlu o).mem = s.mem := rfl
@[simp] theorem State.setAlu_io (o : AluOut) : (s.setAlu o).io = s.io := rfl
@[simp] theorem State.setAlu_ioDraws (o : AluOut) : (s.setAlu o).ioDraws = s.ioDraws := rfl
@[simp] theorem State.setAlu_portOps (o : AluOut) : (s.setAlu o).portOps = s.portOps := rfl
@[simp] theorem State.setAlu_lastResult (o : AluOut) : (s.setAlu o).lastResult = s.lastResult := rfl
@[simp] theorem State.setAlu_cfg (o : AluOut) : (s.setAlu o).cfg = s.cfg := rfl
@[simp] theorem State.setAlu_psg (o : AluOut) : (s.setAlu o).psg = s.psg := rfl
@[simp] theorem State.setAlu_isIo (o : AluOut) (j : Word) : (s.setAlu o).isIo j = s.isIo j := rfl
@[simp] theorem State.setAlu_portByte (o : AluOut) (j : Word) : (s.setAlu o).portByte j = s.portByte j := rfl

@[simp] theorem State.setCompare_a (r v : Byte) : (s.setCompare r v).a = s.a := rfl
@[simp] theorem State.setCompare_x (r v : Byte) : (s.setCompare r v).x = s.x := rfl
@[simp] theorem State.setCompare_y (r v : Byte) : (s.setCompare r v).y = s.y := rfl
@[simp] theorem State.setCompare_z (r v : Byte) : (s.setCompare r v).z = s.z := rfl
@[simp] theorem State.setCompare_sp (r v : Byte) : (s.setCompare r v).sp = s.sp := rfl
@[simp] theorem State.setCompare_pc (r v : Byte) : (s.setCompare r v).pc = s.pc := rfl
@[simp] theorem State.setCompare_cyc (r v : Byte) : (s.setCompare r v).cyc = s.cyc := rfl
@[simp] theorem State.setCompare_bound (r v : Byte) : (s.setCompare r v).bound = s.bound := rfl
@[simp] theorem State.setCompare_faulted (r v : Byte) : (s.setCompare r v).faulted = s.faulted := rfl
@[simp] theorem State.setCompare_diag (r v : Byte) : (s.setCompare r v).diag = s.diag := rfl
@[simp] theorem State.setCompare_mem (r v : Byte) : (s.setCompare r v).mem = s.mem := rfl
@[simp] theorem State.setCompare_io (r v : Byte) : (s.setCompare r v).io = s.io := rfl
@[simp] theorem State.setCompare_ioDraws (r v : Byte) : (s.setCompare r v).ioDraws = s.ioDraws := rfl
@[simp] theorem State.setCompare_portOps (r v : Byte) : (s.setCompare r v).portOps = s.portOps := rfl
@[simp] theorem State.setCompare_lastResult (r v : Byte) : (s.setCompare r v).lastResult = s.lastResult := rfl
@[simp] theorem State.setCompare_cfg (r v : Byte) : (s.setCompare r v).cfg = s.cfg := rfl
@[simp] theorem State.setCompare_psg (r v : Byte) : (s.setCompare r v).psg = s.psg := rfl
@[simp] theorem State.setCompare_isIo (r v : Byte) (j : Word) : (s.setCompare r v).isIo j = s.isIo j := rfl
@[simp] theorem State.setCompare_portByte (r v : Byte) (j : Word) : (s.setCompare r v).portByte j = s.portByte j := rfl

end Sys2Proof.Machine
end

