-- ==== Sys2Proof/Laws/Flags.lean ====
section
/-! SUPPORT. What each flag computation leaves in each flag of P. -/

namespace Sys2Proof.Machine

variable (s : State)

@[simp] theorem State.setP_flag_eq (v : Byte) (g : Flag) : (s.setP v).flag g = v.getLsbD g.bit := rfl

/-- A written flag holds the value written, every other flag what it held (R114). -/
@[simp] theorem State.setFlag_flag (f : Flag) (v : Bool) (g : Flag) :
    (s.setFlag f v).flag g = if g = f then v else s.flag g := by
  cases v <;> cases f <;> cases g <;> simp [State.flag, State.setFlag, State.setP, Flag.bit]

@[simp] theorem State.setNZ8_flag_z (v : Byte) : (s.setNZ8 v).flag .z = (v == 0#8) := by simp [State.setNZ8]
@[simp] theorem State.setNZ8_flag_n (v : Byte) : (s.setNZ8 v).flag .n = v.msb := by simp [State.setNZ8]

/-- SetNZ8 leaves every flag but N and Z (R17). -/
theorem State.setNZ8_flag (v : Byte) {g : Flag} (hn : g ≠ .n) (hz : g ≠ .z) : (s.setNZ8 v).flag g = s.flag g := by
  simp [State.setNZ8, hn, hz]

@[simp] theorem State.setNZ16_flag_z (w : Word) : (s.setNZ16 w).flag .z = (w == 0#16) := by simp [State.setNZ16]
@[simp] theorem State.setNZ16_flag_n (w : Word) : (s.setNZ16 w).flag .n = w.msb := by simp [State.setNZ16]

/-- SetNZ16 leaves every flag but N and Z (R17). -/
theorem State.setNZ16_flag (w : Word) {g : Flag} (hn : g ≠ .n) (hz : g ≠ .z) : (s.setNZ16 w).flag g = s.flag g := by
  simp [State.setNZ16, hn, hz]

@[simp] theorem State.setAlu_flag_n (o : AluOut) : (s.setAlu o).flag .n = o.value.msb := by simp [State.setAlu]
@[simp] theorem State.setAlu_flag_z (o : AluOut) : (s.setAlu o).flag .z = (o.value == 0#8) := by simp [State.setAlu]
@[simp] theorem State.setAlu_flag_v (o : AluOut) : (s.setAlu o).flag .v = o.overflow := by
  simp [State.setAlu, State.setNZ8]
@[simp] theorem State.setAlu_flag_c (o : AluOut) : (s.setAlu o).flag .c = o.carry := by
  simp [State.setAlu, State.setNZ8]

/-- An addition or subtraction leaves every flag but N, V, Z and C (R860, R861). -/
theorem State.setAlu_flag (o : AluOut) {g : Flag} (h : g ∉ [Flag.n, .v, .z, .c]) : (s.setAlu o).flag g = s.flag g := by
  cases g <;> simp_all [State.setAlu, State.setNZ8]

@[simp] theorem State.setCompare_flag_n (r v : Byte) : (s.setCompare r v).flag .n = (r - v).msb := by
  simp [State.setCompare]
@[simp] theorem State.setCompare_flag_z (r v : Byte) : (s.setCompare r v).flag .z = (r - v == 0#8) := by
  simp [State.setCompare]
@[simp] theorem State.setCompare_flag_c (r v : Byte) : (s.setCompare r v).flag .c = decide (r.toNat ≥ v.toNat) := by
  simp [State.setCompare, State.setNZ8]

/-- A comparison leaves every flag but N, Z and C (R864). -/
theorem State.setCompare_flag (r v : Byte) {g : Flag} (h : g ∉ [Flag.n, .z, .c]) :
    (s.setCompare r v).flag g = s.flag g := by
  cases g <;> simp_all [State.setCompare, State.setNZ8]

end Sys2Proof.Machine
end

