-- ==== Sys2Proof/Laws/Memory.lean ====
section
/-! SUPPORT. The laws of memory: a read after a write, and that every operation keeps the canonical form. -/

namespace Sys2Proof.Machine

theorem Memory.read_erase (m : Memory) (a b : Nat) :
    (m.erase a).read b = if b = a then unlistedByte else m.read b := by
  induction m with
  | nil => simp [Memory.erase, Memory.read]
  | cons c rest ih =>
    obtain ⟨c, w⟩ := c
    unfold Memory.erase at ih ⊢
    by_cases hca : c = a
    · by_cases hba : b = a <;> simp_all [Memory.read, eq_comm]
    · by_cases hcb : c = b <;> simp_all [Memory.read]

theorem Memory.read_insert (m : Memory) (a b : Nat) (v : Byte) (h : ∀ c ∈ m, c.1 ≠ a) :
    (m.insert a v).read b = if b = a then v else m.read b := by
  induction m with
  | nil => simp [Memory.insert, Memory.read, eq_comm]
  | cons c rest ih =>
    obtain ⟨c, w⟩ := c
    have hc : c ≠ a := h (c, w) (by simp)
    have ih := ih (fun d hd => h d (by simp [hd]))
    by_cases hac : a < c
    · by_cases hba : b = a
      · simp [Memory.insert, Memory.read, hac, hba]
      · simp [Memory.insert, Memory.read, hac, hba, Ne.symm hba]
    · by_cases hcb : c = b
      · subst hcb; simp [Memory.insert, Memory.read, hac, hc]
      · simp [Memory.insert, Memory.read, hac, hcb, ih]

/-- A read after a write gives the value written at its address, what was there before at every other (R203). -/
theorem Memory.read_write (m : Memory) (a b : Nat) (v : Byte) :
    (m.write a v).read b = if b = a then v else m.read b := by
  unfold Memory.write
  split
  · next h => rw [Memory.read_erase, h]
  · rw [Memory.read_insert _ _ _ _ (by simp [Memory.erase]), Memory.read_erase]
    by_cases h : b = a <;> simp [h]

/-- The same at 16-bit addresses. -/
@[simp] theorem Memory.read_write_word (m : Memory) (a b : Word) (v : Byte) :
    (m.write a.toNat v).read b.toNat = if b = a then v else m.read b.toNat := by
  rw [Memory.read_write]
  by_cases h : b = a
  · simp [h]
  · have : b.toNat ≠ a.toNat := fun e => h (BitVec.eq_of_toNat_eq e)
    simp [h, this]

theorem Memory.wfFrom_mono {m : Memory} {i j : Nat} (hij : i ≤ j) (h : Memory.wfFrom j m = true) :
    Memory.wfFrom i m = true := by
  cases m with
  | nil => rfl
  | cons c rest =>
    simp only [Memory.wfFrom, Bool.and_eq_true, decide_eq_true_eq] at h ⊢
    exact ⟨⟨⟨by omega, h.1.1.2⟩, h.1.2⟩, h.2⟩

theorem Memory.wfFrom_erase {m : Memory} {lo : Nat} (a : Nat) (h : Memory.wfFrom lo m = true) :
    Memory.wfFrom lo (m.erase a) = true := by
  induction m generalizing lo with
  | nil => rfl
  | cons c rest ih =>
    obtain ⟨c, w⟩ := c
    simp only [Memory.wfFrom, Bool.and_eq_true, decide_eq_true_eq] at h
    have ih := ih h.2
    unfold Memory.erase at ih ⊢
    by_cases hca : c = a
    · simpa [hca] using Memory.wfFrom_mono (by omega) ih
    · have hb : (c != a) = true := by simpa using hca
      simp only [List.filter_cons, hb, if_true, Memory.wfFrom, Bool.and_eq_true, decide_eq_true_eq]
      exact ⟨h.1, ih⟩

theorem Memory.wfFrom_insert {m : Memory} {lo a : Nat} {v : Byte} (h : Memory.wfFrom lo m = true) (hlo : lo ≤ a)
    (ha : a < 65536) (hv : v ≠ unlistedByte) (hn : ∀ c ∈ m, c.1 ≠ a) : Memory.wfFrom lo (m.insert a v) = true := by
  induction m generalizing lo with
  | nil => simp [Memory.insert, Memory.wfFrom, hlo, ha, hv]
  | cons c rest ih =>
    obtain ⟨c, w⟩ := c
    have hc : c ≠ a := hn (c, w) (by simp)
    simp only [Memory.wfFrom, Bool.and_eq_true, decide_eq_true_eq] at h
    by_cases hac : a < c
    · simp only [Memory.insert, hac, if_true, Memory.wfFrom, Bool.and_eq_true, decide_eq_true_eq, bne_iff_ne]
      exact ⟨⟨⟨hlo, ha⟩, hv⟩, ⟨⟨by omega, h.1.1.2⟩, by simpa using h.1.2⟩, h.2⟩
    · simp only [Memory.insert, hac, if_false, Memory.wfFrom, Bool.and_eq_true, decide_eq_true_eq]
      exact ⟨h.1, ih h.2 (by omega) (fun d hd => hn d (by simp [hd]))⟩

/-- A write at an address of the space keeps the canonical form. -/
theorem Memory.wf_write {m : Memory} {a : Nat} (v : Byte) (h : m.wf = true) (ha : a < 65536) :
    (m.write a v).wf = true := by
  unfold Memory.wf at *
  unfold Memory.write
  split
  · exact Memory.wfFrom_erase a h
  · next hv => exact Memory.wfFrom_insert (Memory.wfFrom_erase a h) (by omega) ha hv (by simp [Memory.erase])

theorem Memory.wf_write_word {m : Memory} (a : Word) (v : Byte) (h : m.wf = true) : (m.write a.toNat v).wf = true :=
  Memory.wf_write v h a.isLt

/-- What a host hands over is put in canonical form. -/
theorem Memory.wf_ofCells (cells : List Host.Cell) : (Memory.ofCells cells).wf = true := by
  have : ∀ (m : Memory), m.wf = true →
      (cells.foldl (fun m c => if c.1 < 65536 then m.write c.1 c.2 else m) m : Memory).wf = true := by
    induction cells with
    | nil => exact fun m h => h
    | cons c rest ih =>
      intro m h
      refine ih _ ?_
      show (if c.1 < 65536 then m.write c.1 c.2 else m : Memory).wf = true
      split
      · next hc => exact Memory.wf_write c.2 h hc
      · exact h
  exact this [] rfl

theorem State.reset_mem_wf : State.reset.mem.wf = true := rfl

theorem Memory.read_of_wfFrom {m : Memory} {lo b : Nat} (h : Memory.wfFrom lo m = true) (hb : b < lo) :
    m.read b = unlistedByte := by
  induction m generalizing lo with
  | nil => rfl
  | cons c rest ih =>
    simp only [Memory.wfFrom, Bool.and_eq_true, decide_eq_true_eq] at h
    have hne : c.1 ≠ b := by omega
    simpa [Memory.read, hne] using ih h.2 (by omega)

theorem Memory.eq_of_wfFrom {m n : Memory} {lo : Nat} (hm : Memory.wfFrom lo m = true)
    (hn : Memory.wfFrom lo n = true) (h : ∀ b, m.read b = n.read b) : m = n := by
  induction m generalizing n lo with
  | nil =>
    cases n with
    | nil => rfl
    | cons c rest =>
      simp only [Memory.wfFrom, Bool.and_eq_true, decide_eq_true_eq, bne_iff_ne] at hn
      exact absurd (by simpa [Memory.read] using h c.1) (Ne.symm hn.1.2)
  | cons c rest ih =>
    obtain ⟨a, v⟩ := c
    simp only [Memory.wfFrom, Bool.and_eq_true, decide_eq_true_eq, bne_iff_ne] at hm
    cases n with
    | nil => exact absurd (by simpa [Memory.read] using h a) hm.1.2
    | cons d rest' =>
      obtain ⟨b, w⟩ := d
      simp only [Memory.wfFrom, Bool.and_eq_true, decide_eq_true_eq, bne_iff_ne] at hn
      have hab : a = b := by
        rcases Nat.lt_trichotomy a b with hlt | heq | hlt
        · have := h a
          rw [show Memory.read ((a, v) :: rest) a = v by simp [Memory.read],
            show Memory.read ((b, w) :: rest') a = Memory.read rest' a by simp [Memory.read]; omega,
            Memory.read_of_wfFrom hn.2 (by omega)] at this
          exact absurd this hm.1.2
        · exact heq
        · have := h b
          rw [show Memory.read ((b, w) :: rest') b = w by simp [Memory.read],
            show Memory.read ((a, v) :: rest) b = Memory.read rest b by simp [Memory.read]; omega,
            Memory.read_of_wfFrom hm.2 (by omega)] at this
          exact absurd this.symm hn.1.2
      subst hab
      have hvw : v = w := by simpa [Memory.read] using h a
      subst hvw
      congr 1
      refine ih hm.2 hn.2 (fun c => ?_)
      by_cases hc : a = c
      · subst hc
        rw [Memory.read_of_wfFrom hm.2 (by omega), Memory.read_of_wfFrom hn.2 (by omega)]
      · simpa [Memory.read, hc] using h c

/-- Equal memories are equal data: two canonical memories that read the same everywhere are the same list. -/
theorem Memory.eq_of_wf {m n : Memory} (hm : m.wf = true) (hn : n.wf = true) (h : ∀ b, m.read b = n.read b) : m = n :=
  Memory.eq_of_wfFrom hm hn h

end Sys2Proof.Machine
end

