-- ==== Sys2Proof/Laws/Operands.lean ====
section
/-! SUPPORT. What reading an operand does: PC moves past the operand bytes, the model's record of the port's
operations grows, nothing else changes. One lemma per field, and the whole as one equation. -/

namespace Sys2Proof.Machine

variable (s : State)

/-- The operand bytes a source consumes (R301). -/
def Source.operandBytes : Source → Nat
  | .imm _ => 1
  | .acc => 0
  | .mem m => m.operandBytes

@[simp] theorem State.memRead_fst (i : Word) : (s.memRead i).1 = s.portByte i := rfl
@[simp] theorem State.memRead_snd (i : Word) : (s.memRead i).2 = s.afterRead i := rfl

theorem State.mem16_fst (i : Word) :
    (s.mem16 i).1 = wordOf ((s.afterRead i).portByte (i + 1#16)) (s.portByte i) := rfl
theorem State.mem16_snd (i : Word) : (s.mem16 i).2 = (s.afterRead i).afterRead (i + 1#16) := rfl
@[simp] theorem State.indirect_fst (i : Word) (v : Byte) : (s.indirect i v).1 = (s.mem16 i).1 + zext v := rfl
@[simp] theorem State.indirect_snd (i : Word) (v : Byte) : (s.indirect i v).2 = (s.mem16 i).2 := rfl

@[simp] theorem State.mem16_snd_a (i : Word) : (s.mem16 i).2.a = s.a := rfl
@[simp] theorem State.mem16_snd_x (i : Word) : (s.mem16 i).2.x = s.x := rfl
@[simp] theorem State.mem16_snd_y (i : Word) : (s.mem16 i).2.y = s.y := rfl
@[simp] theorem State.mem16_snd_z (i : Word) : (s.mem16 i).2.z = s.z := rfl
@[simp] theorem State.mem16_snd_sp (i : Word) : (s.mem16 i).2.sp = s.sp := rfl
@[simp] theorem State.mem16_snd_p (i : Word) : (s.mem16 i).2.p = s.p := rfl
@[simp] theorem State.mem16_snd_cyc (i : Word) : (s.mem16 i).2.cyc = s.cyc := rfl
@[simp] theorem State.mem16_snd_bound (i : Word) : (s.mem16 i).2.bound = s.bound := rfl
@[simp] theorem State.mem16_snd_faulted (i : Word) : (s.mem16 i).2.faulted = s.faulted := rfl
@[simp] theorem State.mem16_snd_diag (i : Word) : (s.mem16 i).2.diag = s.diag := rfl
@[simp] theorem State.mem16_snd_mem (i : Word) : (s.mem16 i).2.mem = s.mem := rfl
@[simp] theorem State.mem16_snd_io (i : Word) : (s.mem16 i).2.io = s.io := rfl
@[simp] theorem State.mem16_snd_lastResult (i : Word) : (s.mem16 i).2.lastResult = s.lastResult := rfl
@[simp] theorem State.mem16_snd_cfg (i : Word) : (s.mem16 i).2.cfg = s.cfg := rfl
@[simp] theorem State.mem16_snd_psg (i : Word) : (s.mem16 i).2.psg = s.psg := rfl
@[simp] theorem State.mem16_snd_pc (i : Word) : (s.mem16 i).2.pc = s.pc := rfl
@[simp] theorem State.mem16_snd_flag (i : Word) (g : Flag) : (s.mem16 i).2.flag g = s.flag g := rfl

@[simp] theorem State.ea_snd_a (m : AddrMode) : (s.ea m).2.a = s.a := by cases m <;> rfl
@[simp] theorem State.ea_snd_x (m : AddrMode) : (s.ea m).2.x = s.x := by cases m <;> rfl
@[simp] theorem State.ea_snd_y (m : AddrMode) : (s.ea m).2.y = s.y := by cases m <;> rfl
@[simp] theorem State.ea_snd_z (m : AddrMode) : (s.ea m).2.z = s.z := by cases m <;> rfl
@[simp] theorem State.ea_snd_sp (m : AddrMode) : (s.ea m).2.sp = s.sp := by cases m <;> rfl
@[simp] theorem State.ea_snd_p (m : AddrMode) : (s.ea m).2.p = s.p := by cases m <;> rfl
@[simp] theorem State.ea_snd_cyc (m : AddrMode) : (s.ea m).2.cyc = s.cyc := by cases m <;> rfl
@[simp] theorem State.ea_snd_bound (m : AddrMode) : (s.ea m).2.bound = s.bound := by cases m <;> rfl
@[simp] theorem State.ea_snd_faulted (m : AddrMode) : (s.ea m).2.faulted = s.faulted := by cases m <;> rfl
@[simp] theorem State.ea_snd_diag (m : AddrMode) : (s.ea m).2.diag = s.diag := by cases m <;> rfl
@[simp] theorem State.ea_snd_mem (m : AddrMode) : (s.ea m).2.mem = s.mem := by cases m <;> rfl
@[simp] theorem State.ea_snd_io (m : AddrMode) : (s.ea m).2.io = s.io := by cases m <;> rfl
@[simp] theorem State.ea_snd_lastResult (m : AddrMode) : (s.ea m).2.lastResult = s.lastResult := by cases m <;> rfl
@[simp] theorem State.ea_snd_cfg (m : AddrMode) : (s.ea m).2.cfg = s.cfg := by cases m <;> rfl
@[simp] theorem State.ea_snd_psg (m : AddrMode) : (s.ea m).2.psg = s.psg := by cases m <;> rfl
@[simp] theorem State.ea_snd_pc (m : AddrMode) : (s.ea m).2.pc = s.pc + BitVec.ofNat 16 m.operandBytes := by
  cases m <;> rfl
@[simp] theorem State.ea_snd_flag (m : AddrMode) (g : Flag) : (s.ea m).2.flag g = s.flag g := by cases m <;> rfl
@[simp] theorem State.ea_snd_isIo (m : AddrMode) (j : Word) : (s.ea m).2.isIo j = s.isIo j := by cases m <;> rfl

@[simp] theorem State.load_snd_a (src : Source) : (s.load src).2.a = s.a := by
  cases src <;> simp [State.load]
@[simp] theorem State.load_snd_x (src : Source) : (s.load src).2.x = s.x := by
  cases src <;> simp [State.load]
@[simp] theorem State.load_snd_y (src : Source) : (s.load src).2.y = s.y := by
  cases src <;> simp [State.load]
@[simp] theorem State.load_snd_z (src : Source) : (s.load src).2.z = s.z := by
  cases src <;> simp [State.load]
@[simp] theorem State.load_snd_sp (src : Source) : (s.load src).2.sp = s.sp := by
  cases src <;> simp [State.load]
@[simp] theorem State.load_snd_p (src : Source) : (s.load src).2.p = s.p := by
  cases src <;> simp [State.load]
@[simp] theorem State.load_snd_cyc (src : Source) : (s.load src).2.cyc = s.cyc := by
  cases src <;> simp [State.load]
@[simp] theorem State.load_snd_bound (src : Source) : (s.load src).2.bound = s.bound := by
  cases src <;> simp [State.load]
@[simp] theorem State.load_snd_faulted (src : Source) : (s.load src).2.faulted = s.faulted := by
  cases src <;> simp [State.load]
@[simp] theorem State.load_snd_diag (src : Source) : (s.load src).2.diag = s.diag := by
  cases src <;> simp [State.load]
@[simp] theorem State.load_snd_mem (src : Source) : (s.load src).2.mem = s.mem := by
  cases src <;> simp [State.load]
@[simp] theorem State.load_snd_io (src : Source) : (s.load src).2.io = s.io := by
  cases src <;> simp [State.load]
@[simp] theorem State.load_snd_lastResult (src : Source) : (s.load src).2.lastResult = s.lastResult := by
  cases src <;> simp [State.load]
@[simp] theorem State.load_snd_cfg (src : Source) : (s.load src).2.cfg = s.cfg := by
  cases src <;> simp [State.load]
@[simp] theorem State.load_snd_psg (src : Source) : (s.load src).2.psg = s.psg := by
  cases src <;> simp [State.load]
@[simp] theorem State.load_snd_pc (src : Source) :
    (s.load src).2.pc = s.pc + BitVec.ofNat 16 src.operandBytes := by
  cases src <;> simp [State.load, Source.operandBytes]
@[simp] theorem State.load_snd_flag (src : Source) (g : Flag) : (s.load src).2.flag g = s.flag g := by
  cases src <;> simp [State.load]

/-- Everything an effective address does to the state. -/
theorem State.ea_frame (m : AddrMode) :
    (s.ea m).2 = { s with
      pc := s.pc + BitVec.ofNat 16 m.operandBytes
      ioDraws := (s.ea m).2.ioDraws
      portOps := (s.ea m).2.portOps } := by
  cases m <;> rfl

/-- Everything reading an operand does to the state. -/
theorem State.load_frame (src : Source) :
    (s.load src).2 = { s with
      pc := s.pc + BitVec.ofNat 16 src.operandBytes
      ioDraws := (s.load src).2.ioDraws
      portOps := (s.load src).2.portOps } := by
  rcases src with v | _ | m
  · rfl
  · simp [State.load, Source.operandBytes]
  · cases m <;> rfl

/-- The address read by a memory operand is the mode's effective address. -/
theorem State.load_mem (m : AddrMode) :
    s.load (.mem m) = ((s.ea m).2.portByte (s.ea m).1, (s.ea m).2.afterRead (s.ea m).1) := rfl

@[simp] theorem State.rmw_acc (f : Byte → State → Byte × State) :
    s.rmw .acc f = (f s.a s).2.setA (f s.a s).1 := rfl

/-- A read-modify-write of memory: the operand is loaded, `f` runs, its result goes to the same address. -/
theorem State.rmw_mem (m : AddrMode) (f : Byte → State → Byte × State) :
    s.rmw (.mem m) f =
      (f (s.load (.mem m)).1 (s.load (.mem m)).2).2.memWrite (s.ea m).1
        (f (s.load (.mem m)).1 (s.load (.mem m)).2).1 := rfl

/-- A relative target: the displacement is consumed, then added to PC (R426, R427). -/
theorem State.relTarget_short (d : Byte) : s.relTarget (.short d) = (s.pc + 1#16 + sext d, s.advance 1) := rfl
theorem State.relTarget_word (d : Word) : s.relTarget (.word d) = (s.pc + 2#16 + d, s.advance 2) := rfl

end Sys2Proof.Machine
end

