-- ==== Sys2Proof/Laws/Ops.lean ====
section
/-! SUPPORT. What the stack operations and the port do, case by case. -/

namespace Sys2Proof.Machine

variable (s : State)

/-- A byte of plain RAM is answered from memory (R203). -/
theorem State.portByte_of_not_io {s : State} {a : Word} (h : s.isIo a = false) : s.portByte a = s.mem.read a.toNat := by
  simp [State.portByte, h]

/-- At a host-mapped I/O address the answer is the next draw (R203). -/
theorem State.portByte_of_io {s : State} {a : Word} (h : s.isIo a = true) : s.portByte a = Config.ioByte s.ioDraws := by
  simp [State.portByte, h]

/-- What a byte of memory holds after a 16-bit value is stored: the high byte at `a + 1`, the low byte at `a`, every
other byte what it held (R204). -/
theorem State.memWrite16_read (a w b : Word) :
    (s.memWrite16 a w).mem.read b.toNat =
      if b = a + 1#16 then highByte w else if b = a then lowByte w else s.mem.read b.toNat := by
  simp only [State.memWrite16, State.memWrite_mem, Memory.read_write_word]

/-- A push away from the limit (R430). -/
theorem State.push_ok {s : State} (v : Byte) (h : ¬(s.sp = 0x00#8 ∧ s.cfg.stackLimit = .fault)) :
    s.push v = .ok ((s.memWrite (stackAddr s.sp) v).setSp (s.sp - 1#8)) := by
  exact if_neg h

/-- A push at the limit: the byte is written, then the fault is raised and SP stays (R430, R432). -/
theorem State.push_overflow {s : State} (v : Byte) (h : s.sp = 0x00#8 ∧ s.cfg.stackLimit = .fault) :
    s.push v = .error ((s.memWrite (stackAddr s.sp) v).raiseStackFault .overflow) := by
  exact if_pos h

/-- A pull away from the limit (R431). -/
theorem State.pull_ok {s : State} (h : ¬(s.sp = 0xFF#8 ∧ s.cfg.stackLimit = .fault)) :
    s.pull = .ok (s.portByte (stackAddr (s.sp + 1#8)), (s.setSp (s.sp + 1#8)).afterRead (stackAddr (s.sp + 1#8))) := by
  exact if_neg h

/-- A pull at the limit: nothing is read, SP stays (R431, R432). -/
theorem State.pull_underflow {s : State} (h : s.sp = 0xFF#8 ∧ s.cfg.stackLimit = .fault) :
    s.pull = .error (s.raiseStackFault .underflow) := by
  exact if_pos h

/-- A 16-bit push that meets no limit (R205, R434). -/
theorem State.push16_ok {s : State} (w : Word)
    (h : s.cfg.stackLimit = .fault → s.sp ≠ 0x00#8 ∧ s.sp - 1#8 ≠ 0x00#8) :
    s.push16 w = .ok ((((s.memWrite (stackAddr s.sp) (highByte w)).setSp (s.sp - 1#8)).memWrite
      (stackAddr (s.sp - 1#8)) (lowByte w)).setSp (s.sp - 1#8 - 1#8)) := by
  rw [State.push16, State.push_ok _ (fun ⟨h0, hl⟩ => (h hl).1 h0)]
  exact State.push_ok _ (fun ⟨h0, hl⟩ => (h hl).2 h0)

/-- A 16-bit pull that meets no limit (R431). -/
theorem State.pull16_ok {s : State} (h : s.cfg.stackLimit = .fault → s.sp ≠ 0xFF#8 ∧ s.sp + 1#8 ≠ 0xFF#8) :
    ∃ t, s.pull16 = .ok
        (wordOf (((s.setSp (s.sp + 1#8)).afterRead (stackAddr (s.sp + 1#8))).portByte (stackAddr (s.sp + 1#8 + 1#8)))
          (s.portByte (stackAddr (s.sp + 1#8))), t) ∧
      t = ((((s.setSp (s.sp + 1#8)).afterRead (stackAddr (s.sp + 1#8))).setSp (s.sp + 1#8 + 1#8)).afterRead
        (stackAddr (s.sp + 1#8 + 1#8))) := by
  refine ⟨_, ?_, rfl⟩
  rw [State.pull16, State.pull_ok (fun ⟨h0, hl⟩ => (h hl).1 h0)]
  simp only
  have h2 : ¬(((s.setSp (s.sp + 1#8)).afterRead (stackAddr (s.sp + 1#8))).sp = 0xFF#8 ∧
      ((s.setSp (s.sp + 1#8)).afterRead (stackAddr (s.sp + 1#8))).cfg.stackLimit = .fault) :=
    fun ⟨h0, hl⟩ => (h hl).2 h0
  rw [State.pull_ok h2]
  rfl

/-- The unimplemented-opcode rule as one equation: PC and DIAG move, nothing else (R404). -/
theorem State.unimplemented_eq (op : Byte) :
    s.unimplemented op = { s with
      pc := s.pc + BitVec.ofNat 16 (opcodeLength op - 1)
      diag := s.diag ++ [⟨.unimplemented, op, s.pc - 1#16⟩] } := rfl

end Sys2Proof.Machine
end

