-- ==== Sys2Proof/Laws/Meanings.lean ====
section
/-! SUPPORT. The shared meanings as equations: the one next state each answers. -/

namespace Sys2Proof.Machine

variable (s : State)

theorem logical_eq (f : Byte → Byte → Byte) (src : Source) :
    logical f src s = .next (((s.load src).2.setA (f s.a (s.load src).1)).setNZ8 (f s.a (s.load src).1)) := by
  rw [← State.load_snd_a s src]; rfl

theorem bitMemory_eq (m : AddrMode) :
    bitMemory m s = .next ((((s.load (.mem m)).2.setFlag .z ((s.a &&& (s.load (.mem m)).1) == 0#8)).setFlag .n
      ((s.load (.mem m)).1.getLsbD 7)).setFlag .v ((s.load (.mem m)).1.getLsbD 6)) := by
  rw [← State.load_snd_a s (.mem m)]; rfl

theorem tsb_eq (m : AddrMode) :
    tsb m s = .next (((s.load (.mem m)).2.setFlag .z ((s.a ||| (s.load (.mem m)).1) == 0#8)).memWrite (s.ea m).1
      (s.a ||| (s.load (.mem m)).1)) := by
  rw [← State.load_snd_a s (.mem m)]; rfl

theorem trb_eq (m : AddrMode) :
    trb m s = .next (((s.load (.mem m)).2.setFlag .z ((~~~s.a &&& (s.load (.mem m)).1) == 0#8)).memWrite (s.ea m).1
      (~~~s.a &&& (s.load (.mem m)).1)) := by
  rw [← State.load_snd_a s (.mem m)]; rfl

/-- The carry a shift reads is the one before the instruction. -/
theorem shift_mem_eq (f : Byte → Bool → ShiftOut) (m : AddrMode) :
    shift f (.mem m) s = .next ((((s.load (.mem m)).2.setFlag .c (f (s.load (.mem m)).1 (s.flag .c)).carry).setNZ8
      (f (s.load (.mem m)).1 (s.flag .c)).value).memWrite (s.ea m).1 (f (s.load (.mem m)).1 (s.flag .c)).value) := by
  rw [← State.load_snd_flag s (.mem m)]; rfl

theorem shift_acc_eq (f : Byte → Bool → ShiftOut) :
    shift f .acc s = .next (((s.setFlag .c (f s.a (s.flag .c)).carry).setNZ8 (f s.a (s.flag .c)).value).setA
      (f s.a (s.flag .c)).value) := rfl

theorem shiftWordLeft_eq (low : Bool) (w : Word) :
    let v := ((s.advance 2).mem16 w).1
    let r := (v <<< 1) ||| (BitVec.ofBool low).setWidth 16
    shiftWordLeft low w s = .next (((((s.advance 2).mem16 w).2.setFlag .c v.msb).memWrite16 w r).setNZ16 r) := rfl

theorem updateWord_eq (f : Word → Word) (b : Byte) :
    let v := ((s.advance 1).mem16 (zext b)).1
    updateWord f b s = .next ((((s.advance 1).mem16 (zext b)).2.memWrite16 (zext b) (f v)).setNZ16 (f v)) := rfl

theorem transfer_eq (set : State → Byte → State) (v : Byte) : transfer set v s = .next ((set s v).setNZ8 v) := rfl

theorem load_eq (set : State → Byte → State) (src : Source) :
    load set src s = .next ((set (s.load src).2 (s.load src).1).setNZ8 (s.load src).1) := rfl

theorem store_eq (r : Byte) (m : AddrMode) : store r m s = .next ((s.ea m).2.memWrite (s.ea m).1 r) := rfl

theorem adc_eq (src : Source) :
    adc src s = .next ((s.load src).2.setAlu
      (adcOut s.cfg.decimalModel (s.flag .d) s.a (s.load src).1 (s.flag .c))) := by
  rw [← State.load_snd_a s src, ← State.load_snd_flag s src, ← State.load_snd_flag s src, ← State.load_snd_cfg s src]
  rfl

theorem sbc_eq (src : Source) :
    sbc src s = .next ((s.load src).2.setAlu
      (sbcOut s.cfg.decimalModel (s.flag .d) s.a (s.load src).1 (s.flag .c))) := by
  rw [← State.load_snd_a s src, ← State.load_snd_flag s src, ← State.load_snd_flag s src, ← State.load_snd_cfg s src]
  rfl

theorem compare_eq (r : Byte) (src : Source) :
    compare r src s = .next ((s.load src).2.setCompare r (s.load src).1) := rfl

theorem jmp_eq (m : AddrMode) : jmp m s = .next ((s.ea m).2.setPc (s.ea m).1) := rfl

theorem branch_eq (d : Displacement) (cond : Bool) :
    branch d cond s = .next (if cond then (s.relTarget d).2.setPc (s.relTarget d).1 else (s.relTarget d).2) := by
  cases cond <;> rfl

theorem branchOnBit_eq (bit : Bool) (n : Nat) (b d : Byte) :
    branchOnBit bit n b d s = .next (if (s.portByte (zext b)).getLsbD n = bit
      then ((s.advance 2).afterRead (zext b)).setPc (s.pc + 2#16 + sext d)
      else (s.advance 2).afterRead (zext b)) := by
  by_cases h : (s.portByte (zext b)).getLsbD n = bit
  · exact (if_pos h).trans (by rw [if_pos h]; rfl)
  · exact (if_neg h).trans (by rw [if_neg h])

end Sys2Proof.Machine
end

