-- ==== Sys2Proof/Laws/Forms.lean ====
section
/-! SUPPORT. Every form the statements list has the opcode listed for it, and runs the shared meaning on the operand
listed for it. -/

namespace Sys2Proof.Machine

variable (s : State)

theorem oraForms_exec (v b : Byte) (w : Word) : ∀ f ∈ oraForms v b w,
    f.instr.opcode = f.opcode ∧ exec f.instr s = logical (fun p q => p ||| q) f.operand s := by
  intro f hf
  simp only [oraForms, List.mem_cons, List.not_mem_nil, or_false] at hf
  rcases hf with rfl | rfl | rfl | rfl | rfl | rfl | rfl | rfl | rfl <;> exact ⟨rfl, rfl⟩

theorem andForms_exec (v b : Byte) (w : Word) : ∀ f ∈ andForms v b w,
    f.instr.opcode = f.opcode ∧ exec f.instr s = logical (fun p q => p &&& q) f.operand s := by
  intro f hf
  simp only [andForms, List.mem_cons, List.not_mem_nil, or_false] at hf
  rcases hf with rfl | rfl | rfl | rfl | rfl | rfl | rfl | rfl | rfl <;> exact ⟨rfl, rfl⟩

theorem eorForms_exec (v b : Byte) (w : Word) : ∀ f ∈ eorForms v b w,
    f.instr.opcode = f.opcode ∧ exec f.instr s = logical (fun p q => p ^^^ q) f.operand s := by
  intro f hf
  simp only [eorForms, List.mem_cons, List.not_mem_nil, or_false] at hf
  rcases hf with rfl | rfl | rfl | rfl | rfl | rfl | rfl | rfl | rfl <;> exact ⟨rfl, rfl⟩

theorem adcForms_exec (v b : Byte) (w : Word) : ∀ f ∈ adcForms v b w,
    f.instr.opcode = f.opcode ∧ exec f.instr s = adc f.operand s := by
  intro f hf
  simp only [adcForms, List.mem_cons, List.not_mem_nil, or_false] at hf
  rcases hf with rfl | rfl | rfl | rfl | rfl | rfl | rfl | rfl | rfl <;> exact ⟨rfl, rfl⟩

theorem sbcForms_exec (v b : Byte) (w : Word) : ∀ f ∈ sbcForms v b w,
    f.instr.opcode = f.opcode ∧ exec f.instr s = sbc f.operand s := by
  intro f hf
  simp only [sbcForms, List.mem_cons, List.not_mem_nil, or_false] at hf
  rcases hf with rfl | rfl | rfl | rfl | rfl | rfl | rfl | rfl | rfl <;> exact ⟨rfl, rfl⟩

theorem cmpForms_exec (v b : Byte) (w : Word) : ∀ f ∈ cmpForms v b w,
    f.instr.opcode = f.opcode ∧ exec f.instr s = compare s.a f.operand s := by
  intro f hf
  simp only [cmpForms, List.mem_cons, List.not_mem_nil, or_false] at hf
  rcases hf with rfl | rfl | rfl | rfl | rfl | rfl | rfl | rfl | rfl <;> exact ⟨rfl, rfl⟩

theorem cpxForms_exec (v b : Byte) (w : Word) : ∀ f ∈ cpxForms v b w,
    f.instr.opcode = f.opcode ∧ exec f.instr s = compare s.x f.operand s := by
  intro f hf
  simp only [cpxForms, List.mem_cons, List.not_mem_nil, or_false] at hf
  rcases hf with rfl | rfl | rfl <;> exact ⟨rfl, rfl⟩

theorem cpyForms_exec (v b : Byte) (w : Word) : ∀ f ∈ cpyForms v b w,
    f.instr.opcode = f.opcode ∧ exec f.instr s = compare s.y f.operand s := by
  intro f hf
  simp only [cpyForms, List.mem_cons, List.not_mem_nil, or_false] at hf
  rcases hf with rfl | rfl | rfl <;> exact ⟨rfl, rfl⟩

theorem cpzForms_exec (v b : Byte) (w : Word) : ∀ f ∈ cpzForms v b w,
    f.instr.opcode = f.opcode ∧ exec f.instr s = compare s.z f.operand s := by
  intro f hf
  simp only [cpzForms, List.mem_cons, List.not_mem_nil, or_false] at hf
  rcases hf with rfl | rfl | rfl <;> exact ⟨rfl, rfl⟩

theorem ldaForms_exec (v b d : Byte) (w : Word) : ∀ f ∈ ldaForms v b d w,
    f.instr.opcode = f.opcode ∧ exec f.instr s = load State.setA f.operand s := by
  intro f hf
  simp only [ldaForms, List.mem_cons, List.not_mem_nil, or_false] at hf
  rcases hf with rfl | rfl | rfl | rfl | rfl | rfl | rfl | rfl | rfl | rfl <;> exact ⟨rfl, rfl⟩

theorem ldxForms_exec (v b : Byte) (w : Word) : ∀ f ∈ ldxForms v b w,
    f.instr.opcode = f.opcode ∧ exec f.instr s = load State.setX f.operand s := by
  intro f hf
  simp only [ldxForms, List.mem_cons, List.not_mem_nil, or_false] at hf
  rcases hf with rfl | rfl | rfl | rfl | rfl <;> exact ⟨rfl, rfl⟩

theorem ldyForms_exec (v b : Byte) (w : Word) : ∀ f ∈ ldyForms v b w,
    f.instr.opcode = f.opcode ∧ exec f.instr s = load State.setY f.operand s := by
  intro f hf
  simp only [ldyForms, List.mem_cons, List.not_mem_nil, or_false] at hf
  rcases hf with rfl | rfl | rfl | rfl | rfl <;> exact ⟨rfl, rfl⟩

theorem ldzForms_exec (v : Byte) (w : Word) : ∀ f ∈ ldzForms v w,
    f.instr.opcode = f.opcode ∧ exec f.instr s = load State.setZ f.operand s := by
  intro f hf
  simp only [ldzForms, List.mem_cons, List.not_mem_nil, or_false] at hf
  rcases hf with rfl | rfl | rfl <;> exact ⟨rfl, rfl⟩

theorem staForms_exec (b d : Byte) (w : Word) : ∀ f ∈ staForms b d w,
    f.instr.opcode = f.opcode ∧ exec f.instr s = store s.a f.operand s := by
  intro f hf
  simp only [staForms, List.mem_cons, List.not_mem_nil, or_false] at hf
  rcases hf with rfl | rfl | rfl | rfl | rfl | rfl | rfl | rfl | rfl <;> exact ⟨rfl, rfl⟩

theorem stxForms_exec (b : Byte) (w : Word) : ∀ f ∈ stxForms b w,
    f.instr.opcode = f.opcode ∧ exec f.instr s = store s.x f.operand s := by
  intro f hf
  simp only [stxForms, List.mem_cons, List.not_mem_nil, or_false] at hf
  rcases hf with rfl | rfl | rfl | rfl <;> exact ⟨rfl, rfl⟩

theorem styForms_exec (b : Byte) (w : Word) : ∀ f ∈ styForms b w,
    f.instr.opcode = f.opcode ∧ exec f.instr s = store s.y f.operand s := by
  intro f hf
  simp only [styForms, List.mem_cons, List.not_mem_nil, or_false] at hf
  rcases hf with rfl | rfl | rfl | rfl <;> exact ⟨rfl, rfl⟩

theorem stzForms_exec (b : Byte) (w : Word) : ∀ f ∈ stzForms b w,
    f.instr.opcode = f.opcode ∧ exec f.instr s = store s.z f.operand s := by
  intro f hf
  simp only [stzForms, List.mem_cons, List.not_mem_nil, or_false] at hf
  rcases hf with rfl | rfl | rfl | rfl <;> exact ⟨rfl, rfl⟩

theorem bitForms_exec (b : Byte) (w : Word) : ∀ f ∈ bitForms b w,
    f.instr.opcode = f.opcode ∧ exec f.instr s = bitMemory f.operand s := by
  intro f hf
  simp only [bitForms, List.mem_cons, List.not_mem_nil, or_false] at hf
  rcases hf with rfl | rfl | rfl | rfl <;> exact ⟨rfl, rfl⟩

theorem tsbForms_exec (b : Byte) (w : Word) : ∀ f ∈ tsbForms b w,
    f.instr.opcode = f.opcode ∧ exec f.instr s = tsb f.operand s := by
  intro f hf
  simp only [tsbForms, List.mem_cons, List.not_mem_nil, or_false] at hf
  rcases hf with rfl | rfl <;> exact ⟨rfl, rfl⟩

theorem trbForms_exec (b : Byte) (w : Word) : ∀ f ∈ trbForms b w,
    f.instr.opcode = f.opcode ∧ exec f.instr s = trb f.operand s := by
  intro f hf
  simp only [trbForms, List.mem_cons, List.not_mem_nil, or_false] at hf
  rcases hf with rfl | rfl <;> exact ⟨rfl, rfl⟩

theorem aslForms_exec (b : Byte) (w : Word) : ∀ f ∈ aslForms b w,
    f.instr.opcode = f.opcode ∧ exec f.instr s = shift aslByte f.operand s := by
  intro f hf
  simp only [aslForms, List.mem_cons, List.not_mem_nil, or_false] at hf
  rcases hf with rfl | rfl | rfl | rfl | rfl <;> exact ⟨rfl, rfl⟩

theorem lsrForms_exec (b : Byte) (w : Word) : ∀ f ∈ lsrForms b w,
    f.instr.opcode = f.opcode ∧ exec f.instr s = shift lsrByte f.operand s := by
  intro f hf
  simp only [lsrForms, List.mem_cons, List.not_mem_nil, or_false] at hf
  rcases hf with rfl | rfl | rfl | rfl | rfl <;> exact ⟨rfl, rfl⟩

theorem rolForms_exec (b : Byte) (w : Word) : ∀ f ∈ rolForms b w,
    f.instr.opcode = f.opcode ∧ exec f.instr s = shift rolByte f.operand s := by
  intro f hf
  simp only [rolForms, List.mem_cons, List.not_mem_nil, or_false] at hf
  rcases hf with rfl | rfl | rfl | rfl | rfl <;> exact ⟨rfl, rfl⟩

theorem rorForms_exec (b : Byte) (w : Word) : ∀ f ∈ rorForms b w,
    f.instr.opcode = f.opcode ∧ exec f.instr s = shift rorByte f.operand s := by
  intro f hf
  simp only [rorForms, List.mem_cons, List.not_mem_nil, or_false] at hf
  rcases hf with rfl | rfl | rfl | rfl | rfl <;> exact ⟨rfl, rfl⟩

theorem asrForms_exec (b : Byte) : ∀ f ∈ asrForms b,
    f.instr.opcode = f.opcode ∧ exec f.instr s = shift asrByte f.operand s := by
  intro f hf
  simp only [asrForms, List.mem_cons, List.not_mem_nil, or_false] at hf
  rcases hf with rfl | rfl | rfl <;> exact ⟨rfl, rfl⟩

theorem incForms_exec (b : Byte) (w : Word) : ∀ f ∈ incForms b w,
    f.instr.opcode = f.opcode ∧ exec f.instr s = inc f.operand s := by
  intro f hf
  simp only [incForms, List.mem_cons, List.not_mem_nil, or_false] at hf
  rcases hf with rfl | rfl | rfl | rfl | rfl <;> exact ⟨rfl, rfl⟩

theorem decForms_exec (b : Byte) (w : Word) : ∀ f ∈ decForms b w,
    f.instr.opcode = f.opcode ∧ exec f.instr s = dec f.operand s := by
  intro f hf
  simp only [decForms, List.mem_cons, List.not_mem_nil, or_false] at hf
  rcases hf with rfl | rfl | rfl | rfl | rfl <;> exact ⟨rfl, rfl⟩

theorem rmbForms_exec (b : Byte) : ∀ f ∈ rmbForms b,
    f.instr.opcode = f.opcode ∧ exec f.instr s = rmb f.operand b s := by
  intro f hf
  simp only [rmbForms, List.mem_cons, List.not_mem_nil, or_false] at hf
  rcases hf with rfl | rfl | rfl | rfl | rfl | rfl | rfl | rfl <;> exact ⟨rfl, rfl⟩

theorem smbForms_exec (b : Byte) : ∀ f ∈ smbForms b,
    f.instr.opcode = f.opcode ∧ exec f.instr s = smb f.operand b s := by
  intro f hf
  simp only [smbForms, List.mem_cons, List.not_mem_nil, or_false] at hf
  rcases hf with rfl | rfl | rfl | rfl | rfl | rfl | rfl | rfl <;> exact ⟨rfl, rfl⟩

theorem bbrForms_exec (b d : Byte) : ∀ f ∈ bbrForms b d,
    f.instr.opcode = f.opcode ∧ exec f.instr s = branchOnBit false f.operand b d s := by
  intro f hf
  simp only [bbrForms, List.mem_cons, List.not_mem_nil, or_false] at hf
  rcases hf with rfl | rfl | rfl | rfl | rfl | rfl | rfl | rfl <;> exact ⟨rfl, rfl⟩

theorem bbsForms_exec (b d : Byte) : ∀ f ∈ bbsForms b d,
    f.instr.opcode = f.opcode ∧ exec f.instr s = branchOnBit true f.operand b d s := by
  intro f hf
  simp only [bbsForms, List.mem_cons, List.not_mem_nil, or_false] at hf
  rcases hf with rfl | rfl | rfl | rfl | rfl | rfl | rfl | rfl <;> exact ⟨rfl, rfl⟩

theorem jmpForms_exec (w : Word) : ∀ f ∈ jmpForms w,
    f.instr.opcode = f.opcode ∧ exec f.instr s = jmp f.operand s := by
  intro f hf
  simp only [jmpForms, List.mem_cons, List.not_mem_nil, or_false] at hf
  rcases hf with rfl | rfl | rfl <;> exact ⟨rfl, rfl⟩

theorem callForms_exec (w : Word) : ∀ f ∈ callForms w,
    f.instr.opcode = f.opcode ∧ exec f.instr s = call (f.operand s).1 (f.operand s).2 := by
  intro f hf
  simp only [callForms, List.mem_cons, List.not_mem_nil, or_false] at hf
  rcases hf with rfl | rfl | rfl | rfl <;> exact ⟨rfl, rfl⟩

theorem pushForms_exec : ∀ f ∈ pushForms,
    f.instr.opcode = f.opcode ∧ exec f.instr s = pushByte (f.operand s) s := by
  intro f hf
  simp only [pushForms, List.mem_cons, List.not_mem_nil, or_false] at hf
  rcases hf with rfl | rfl | rfl | rfl | rfl <;> exact ⟨rfl, rfl⟩

theorem branchForms_exec (d : Byte) (w : Word) : ∀ f ∈ branchForms d w,
    f.instr.opcode = f.opcode ∧ exec f.instr s = branch f.operand.1 (branchTaken s f.operand.2) s := by
  have hf (b : Bool) : (!b) = (b == false) := by cases b <;> rfl
  have ht (b : Bool) : b = (b == true) := by cases b <;> rfl
  intro f hmem
  simp only [branchForms, List.mem_cons, List.not_mem_nil, or_false] at hmem
  rcases hmem with rfl | rfl | rfl | rfl | rfl | rfl | rfl | rfl | rfl | rfl | rfl | rfl | rfl | rfl | rfl | rfl | rfl | rfl
  · exact ⟨rfl, congrArg (fun c => branch (.short d) c s) (hf (s.flag .n))⟩
  · exact ⟨rfl, congrArg (fun c => branch (.word w) c s) (hf (s.flag .n))⟩
  · exact ⟨rfl, congrArg (fun c => branch (.short d) c s) (ht (s.flag .n))⟩
  · exact ⟨rfl, congrArg (fun c => branch (.word w) c s) (ht (s.flag .n))⟩
  · exact ⟨rfl, congrArg (fun c => branch (.short d) c s) (hf (s.flag .v))⟩
  · exact ⟨rfl, congrArg (fun c => branch (.word w) c s) (hf (s.flag .v))⟩
  · exact ⟨rfl, congrArg (fun c => branch (.short d) c s) (ht (s.flag .v))⟩
  · exact ⟨rfl, congrArg (fun c => branch (.word w) c s) (ht (s.flag .v))⟩
  · exact ⟨rfl, congrArg (fun c => branch (.short d) c s) (hf (s.flag .c))⟩
  · exact ⟨rfl, congrArg (fun c => branch (.word w) c s) (hf (s.flag .c))⟩
  · exact ⟨rfl, congrArg (fun c => branch (.short d) c s) (ht (s.flag .c))⟩
  · exact ⟨rfl, congrArg (fun c => branch (.word w) c s) (ht (s.flag .c))⟩
  · exact ⟨rfl, congrArg (fun c => branch (.short d) c s) (hf (s.flag .z))⟩
  · exact ⟨rfl, congrArg (fun c => branch (.word w) c s) (hf (s.flag .z))⟩
  · exact ⟨rfl, congrArg (fun c => branch (.short d) c s) (ht (s.flag .z))⟩
  · exact ⟨rfl, congrArg (fun c => branch (.word w) c s) (ht (s.flag .z))⟩
  · exact ⟨rfl, rfl⟩
  · exact ⟨rfl, rfl⟩

end Sys2Proof.Machine
end

