-- ==== Sys2Proof/Laws/PerInstr.lean ====
section
/-! SUPPORT. Families of statements made per instruction. -/

namespace Sys2Proof.Laws

/-- An instruction's words are as many as the length the opcode map gives its opcode (R307), and the map's row of
that opcode, given the operand bytes of the words, builds the instruction (R313). -/
def EncodedLength.Statement (i : Instr) : Prop :=
  (encode i).length = opcodeLength i.opcode ∧
    (opcodeRow i.opcode).build ((encode i).getD 1 0#8) ((encode i).getD 2 0#8) = i

theorem encodedLength_of_row {i : Instr} {op : Byte} {rest : List Byte} {row : Row} (he : encode i = op :: rest)
    (hr : opcodeRow op = row) (hl : (op :: rest).length = row.length)
    (hb : row.build ((op :: rest).getD 1 0#8) ((op :: rest).getD 2 0#8) = i) : EncodedLength.Statement i := by
  unfold EncodedLength.Statement Instr.opcode opcodeLength
  rw [he, List.headD_cons, hr]
  exact ⟨hl, hb⟩

theorem EncodedLength.brk : EncodedLength.Statement (.brk) :=
  encodedLength_of_row (op := 0x00#8) (rest := [0#8]) (row := .skip 1 .brk) rfl rfl rfl rfl
theorem EncodedLength.oraIndX (b : Byte) : EncodedLength.Statement (.oraIndX b) :=
  encodedLength_of_row (op := 0x01#8) (rest := [b]) (row := .byte .oraIndX) rfl rfl rfl rfl
theorem EncodedLength.cle : EncodedLength.Statement (.cle) :=
  encodedLength_of_row (op := 0x02#8) (rest := []) (row := .bare .cle) rfl rfl rfl rfl
theorem EncodedLength.see : EncodedLength.Statement (.see) :=
  encodedLength_of_row (op := 0x03#8) (rest := []) (row := .bare .see) rfl rfl rfl rfl
theorem EncodedLength.tsbBp (b : Byte) : EncodedLength.Statement (.tsbBp b) :=
  encodedLength_of_row (op := 0x04#8) (rest := [b]) (row := .byte .tsbBp) rfl rfl rfl rfl
theorem EncodedLength.oraBp (b : Byte) : EncodedLength.Statement (.oraBp b) :=
  encodedLength_of_row (op := 0x05#8) (rest := [b]) (row := .byte .oraBp) rfl rfl rfl rfl
theorem EncodedLength.aslBp (b : Byte) : EncodedLength.Statement (.aslBp b) :=
  encodedLength_of_row (op := 0x06#8) (rest := [b]) (row := .byte .aslBp) rfl rfl rfl rfl
theorem EncodedLength.rmb0 (b : Byte) : EncodedLength.Statement (.rmb0 b) :=
  encodedLength_of_row (op := 0x07#8) (rest := [b]) (row := .byte .rmb0) rfl rfl rfl rfl
theorem EncodedLength.php : EncodedLength.Statement (.php) :=
  encodedLength_of_row (op := 0x08#8) (rest := []) (row := .bare .php) rfl rfl rfl rfl
theorem EncodedLength.oraImm (v : Byte) : EncodedLength.Statement (.oraImm v) :=
  encodedLength_of_row (op := 0x09#8) (rest := [v]) (row := .byte .oraImm) rfl rfl rfl rfl
theorem EncodedLength.aslA : EncodedLength.Statement (.aslA) :=
  encodedLength_of_row (op := 0x0A#8) (rest := []) (row := .bare .aslA) rfl rfl rfl rfl
theorem EncodedLength.tsy : EncodedLength.Statement (.tsy) :=
  encodedLength_of_row (op := 0x0B#8) (rest := []) (row := .bare .tsy) rfl rfl rfl rfl
theorem EncodedLength.tsbAbs (w : Word) : EncodedLength.Statement (.tsbAbs w) :=
  encodedLength_of_row (op := 0x0C#8) (rest := [lowByte w, highByte w]) (row := .word .tsbAbs) rfl rfl rfl (congrArg Instr.tsbAbs (wordOf_high_low w))
theorem EncodedLength.oraAbs (w : Word) : EncodedLength.Statement (.oraAbs w) :=
  encodedLength_of_row (op := 0x0D#8) (rest := [lowByte w, highByte w]) (row := .word .oraAbs) rfl rfl rfl (congrArg Instr.oraAbs (wordOf_high_low w))
theorem EncodedLength.aslAbs (w : Word) : EncodedLength.Statement (.aslAbs w) :=
  encodedLength_of_row (op := 0x0E#8) (rest := [lowByte w, highByte w]) (row := .word .aslAbs) rfl rfl rfl (congrArg Instr.aslAbs (wordOf_high_low w))
theorem EncodedLength.bbr0 (b : Byte) (d : Byte) : EncodedLength.Statement (.bbr0 b d) :=
  encodedLength_of_row (op := 0x0F#8) (rest := [b, d]) (row := .bytes .bbr0) rfl rfl rfl rfl
theorem EncodedLength.bplRel (d : Byte) : EncodedLength.Statement (.bplRel d) :=
  encodedLength_of_row (op := 0x10#8) (rest := [d]) (row := .byte .bplRel) rfl rfl rfl rfl
theorem EncodedLength.oraIndY (b : Byte) : EncodedLength.Statement (.oraIndY b) :=
  encodedLength_of_row (op := 0x11#8) (rest := [b]) (row := .byte .oraIndY) rfl rfl rfl rfl
theorem EncodedLength.oraIndZ (b : Byte) : EncodedLength.Statement (.oraIndZ b) :=
  encodedLength_of_row (op := 0x12#8) (rest := [b]) (row := .byte .oraIndZ) rfl rfl rfl rfl
theorem EncodedLength.bplWord (d : Word) : EncodedLength.Statement (.bplWord d) :=
  encodedLength_of_row (op := 0x13#8) (rest := [lowByte d, highByte d]) (row := .word .bplWord) rfl rfl rfl (congrArg Instr.bplWord (wordOf_high_low d))
theorem EncodedLength.trbBp (b : Byte) : EncodedLength.Statement (.trbBp b) :=
  encodedLength_of_row (op := 0x14#8) (rest := [b]) (row := .byte .trbBp) rfl rfl rfl rfl
theorem EncodedLength.oraBpX (b : Byte) : EncodedLength.Statement (.oraBpX b) :=
  encodedLength_of_row (op := 0x15#8) (rest := [b]) (row := .byte .oraBpX) rfl rfl rfl rfl
theorem EncodedLength.aslBpX (b : Byte) : EncodedLength.Statement (.aslBpX b) :=
  encodedLength_of_row (op := 0x16#8) (rest := [b]) (row := .byte .aslBpX) rfl rfl rfl rfl
theorem EncodedLength.rmb1 (b : Byte) : EncodedLength.Statement (.rmb1 b) :=
  encodedLength_of_row (op := 0x17#8) (rest := [b]) (row := .byte .rmb1) rfl rfl rfl rfl
theorem EncodedLength.clc : EncodedLength.Statement (.clc) :=
  encodedLength_of_row (op := 0x18#8) (rest := []) (row := .bare .clc) rfl rfl rfl rfl
theorem EncodedLength.oraAbsY (w : Word) : EncodedLength.Statement (.oraAbsY w) :=
  encodedLength_of_row (op := 0x19#8) (rest := [lowByte w, highByte w]) (row := .word .oraAbsY) rfl rfl rfl (congrArg Instr.oraAbsY (wordOf_high_low w))
theorem EncodedLength.incA : EncodedLength.Statement (.incA) :=
  encodedLength_of_row (op := 0x1A#8) (rest := []) (row := .bare .incA) rfl rfl rfl rfl
theorem EncodedLength.inz : EncodedLength.Statement (.inz) :=
  encodedLength_of_row (op := 0x1B#8) (rest := []) (row := .bare .inz) rfl rfl rfl rfl
theorem EncodedLength.trbAbs (w : Word) : EncodedLength.Statement (.trbAbs w) :=
  encodedLength_of_row (op := 0x1C#8) (rest := [lowByte w, highByte w]) (row := .word .trbAbs) rfl rfl rfl (congrArg Instr.trbAbs (wordOf_high_low w))
theorem EncodedLength.oraAbsX (w : Word) : EncodedLength.Statement (.oraAbsX w) :=
  encodedLength_of_row (op := 0x1D#8) (rest := [lowByte w, highByte w]) (row := .word .oraAbsX) rfl rfl rfl (congrArg Instr.oraAbsX (wordOf_high_low w))
theorem EncodedLength.aslAbsX (w : Word) : EncodedLength.Statement (.aslAbsX w) :=
  encodedLength_of_row (op := 0x1E#8) (rest := [lowByte w, highByte w]) (row := .word .aslAbsX) rfl rfl rfl (congrArg Instr.aslAbsX (wordOf_high_low w))
theorem EncodedLength.bbr1 (b : Byte) (d : Byte) : EncodedLength.Statement (.bbr1 b d) :=
  encodedLength_of_row (op := 0x1F#8) (rest := [b, d]) (row := .bytes .bbr1) rfl rfl rfl rfl
theorem EncodedLength.jsrAbs (w : Word) : EncodedLength.Statement (.jsrAbs w) :=
  encodedLength_of_row (op := 0x20#8) (rest := [lowByte w, highByte w]) (row := .word .jsrAbs) rfl rfl rfl (congrArg Instr.jsrAbs (wordOf_high_low w))
theorem EncodedLength.andIndX (b : Byte) : EncodedLength.Statement (.andIndX b) :=
  encodedLength_of_row (op := 0x21#8) (rest := [b]) (row := .byte .andIndX) rfl rfl rfl rfl
theorem EncodedLength.jsrInd (w : Word) : EncodedLength.Statement (.jsrInd w) :=
  encodedLength_of_row (op := 0x22#8) (rest := [lowByte w, highByte w]) (row := .word .jsrInd) rfl rfl rfl (congrArg Instr.jsrInd (wordOf_high_low w))
theorem EncodedLength.jsrIndX (w : Word) : EncodedLength.Statement (.jsrIndX w) :=
  encodedLength_of_row (op := 0x23#8) (rest := [lowByte w, highByte w]) (row := .word .jsrIndX) rfl rfl rfl (congrArg Instr.jsrIndX (wordOf_high_low w))
theorem EncodedLength.bitBp (b : Byte) : EncodedLength.Statement (.bitBp b) :=
  encodedLength_of_row (op := 0x24#8) (rest := [b]) (row := .byte .bitBp) rfl rfl rfl rfl
theorem EncodedLength.andBp (b : Byte) : EncodedLength.Statement (.andBp b) :=
  encodedLength_of_row (op := 0x25#8) (rest := [b]) (row := .byte .andBp) rfl rfl rfl rfl
theorem EncodedLength.rolBp (b : Byte) : EncodedLength.Statement (.rolBp b) :=
  encodedLength_of_row (op := 0x26#8) (rest := [b]) (row := .byte .rolBp) rfl rfl rfl rfl
theorem EncodedLength.rmb2 (b : Byte) : EncodedLength.Statement (.rmb2 b) :=
  encodedLength_of_row (op := 0x27#8) (rest := [b]) (row := .byte .rmb2) rfl rfl rfl rfl
theorem EncodedLength.plp : EncodedLength.Statement (.plp) :=
  encodedLength_of_row (op := 0x28#8) (rest := []) (row := .bare .plp) rfl rfl rfl rfl
theorem EncodedLength.andImm (v : Byte) : EncodedLength.Statement (.andImm v) :=
  encodedLength_of_row (op := 0x29#8) (rest := [v]) (row := .byte .andImm) rfl rfl rfl rfl
theorem EncodedLength.rolA : EncodedLength.Statement (.rolA) :=
  encodedLength_of_row (op := 0x2A#8) (rest := []) (row := .bare .rolA) rfl rfl rfl rfl
theorem EncodedLength.tys : EncodedLength.Statement (.tys) :=
  encodedLength_of_row (op := 0x2B#8) (rest := []) (row := .bare .tys) rfl rfl rfl rfl
theorem EncodedLength.bitAbs (w : Word) : EncodedLength.Statement (.bitAbs w) :=
  encodedLength_of_row (op := 0x2C#8) (rest := [lowByte w, highByte w]) (row := .word .bitAbs) rfl rfl rfl (congrArg Instr.bitAbs (wordOf_high_low w))
theorem EncodedLength.andAbs (w : Word) : EncodedLength.Statement (.andAbs w) :=
  encodedLength_of_row (op := 0x2D#8) (rest := [lowByte w, highByte w]) (row := .word .andAbs) rfl rfl rfl (congrArg Instr.andAbs (wordOf_high_low w))
theorem EncodedLength.rolAbs (w : Word) : EncodedLength.Statement (.rolAbs w) :=
  encodedLength_of_row (op := 0x2E#8) (rest := [lowByte w, highByte w]) (row := .word .rolAbs) rfl rfl rfl (congrArg Instr.rolAbs (wordOf_high_low w))
theorem EncodedLength.bbr2 (b : Byte) (d : Byte) : EncodedLength.Statement (.bbr2 b d) :=
  encodedLength_of_row (op := 0x2F#8) (rest := [b, d]) (row := .bytes .bbr2) rfl rfl rfl rfl
theorem EncodedLength.bmiRel (d : Byte) : EncodedLength.Statement (.bmiRel d) :=
  encodedLength_of_row (op := 0x30#8) (rest := [d]) (row := .byte .bmiRel) rfl rfl rfl rfl
theorem EncodedLength.andIndY (b : Byte) : EncodedLength.Statement (.andIndY b) :=
  encodedLength_of_row (op := 0x31#8) (rest := [b]) (row := .byte .andIndY) rfl rfl rfl rfl
theorem EncodedLength.andIndZ (b : Byte) : EncodedLength.Statement (.andIndZ b) :=
  encodedLength_of_row (op := 0x32#8) (rest := [b]) (row := .byte .andIndZ) rfl rfl rfl rfl
theorem EncodedLength.bmiWord (d : Word) : EncodedLength.Statement (.bmiWord d) :=
  encodedLength_of_row (op := 0x33#8) (rest := [lowByte d, highByte d]) (row := .word .bmiWord) rfl rfl rfl (congrArg Instr.bmiWord (wordOf_high_low d))
theorem EncodedLength.bitBpX (b : Byte) : EncodedLength.Statement (.bitBpX b) :=
  encodedLength_of_row (op := 0x34#8) (rest := [b]) (row := .byte .bitBpX) rfl rfl rfl rfl
theorem EncodedLength.andBpX (b : Byte) : EncodedLength.Statement (.andBpX b) :=
  encodedLength_of_row (op := 0x35#8) (rest := [b]) (row := .byte .andBpX) rfl rfl rfl rfl
theorem EncodedLength.rolBpX (b : Byte) : EncodedLength.Statement (.rolBpX b) :=
  encodedLength_of_row (op := 0x36#8) (rest := [b]) (row := .byte .rolBpX) rfl rfl rfl rfl
theorem EncodedLength.rmb3 (b : Byte) : EncodedLength.Statement (.rmb3 b) :=
  encodedLength_of_row (op := 0x37#8) (rest := [b]) (row := .byte .rmb3) rfl rfl rfl rfl
theorem EncodedLength.sec : EncodedLength.Statement (.sec) :=
  encodedLength_of_row (op := 0x38#8) (rest := []) (row := .bare .sec) rfl rfl rfl rfl
theorem EncodedLength.andAbsY (w : Word) : EncodedLength.Statement (.andAbsY w) :=
  encodedLength_of_row (op := 0x39#8) (rest := [lowByte w, highByte w]) (row := .word .andAbsY) rfl rfl rfl (congrArg Instr.andAbsY (wordOf_high_low w))
theorem EncodedLength.decA : EncodedLength.Statement (.decA) :=
  encodedLength_of_row (op := 0x3A#8) (rest := []) (row := .bare .decA) rfl rfl rfl rfl
theorem EncodedLength.dez : EncodedLength.Statement (.dez) :=
  encodedLength_of_row (op := 0x3B#8) (rest := []) (row := .bare .dez) rfl rfl rfl rfl
theorem EncodedLength.bitAbsX (w : Word) : EncodedLength.Statement (.bitAbsX w) :=
  encodedLength_of_row (op := 0x3C#8) (rest := [lowByte w, highByte w]) (row := .word .bitAbsX) rfl rfl rfl (congrArg Instr.bitAbsX (wordOf_high_low w))
theorem EncodedLength.andAbsX (w : Word) : EncodedLength.Statement (.andAbsX w) :=
  encodedLength_of_row (op := 0x3D#8) (rest := [lowByte w, highByte w]) (row := .word .andAbsX) rfl rfl rfl (congrArg Instr.andAbsX (wordOf_high_low w))
theorem EncodedLength.rolAbsX (w : Word) : EncodedLength.Statement (.rolAbsX w) :=
  encodedLength_of_row (op := 0x3E#8) (rest := [lowByte w, highByte w]) (row := .word .rolAbsX) rfl rfl rfl (congrArg Instr.rolAbsX (wordOf_high_low w))
theorem EncodedLength.bbr3 (b : Byte) (d : Byte) : EncodedLength.Statement (.bbr3 b d) :=
  encodedLength_of_row (op := 0x3F#8) (rest := [b, d]) (row := .bytes .bbr3) rfl rfl rfl rfl
theorem EncodedLength.rti : EncodedLength.Statement (.rti) :=
  encodedLength_of_row (op := 0x40#8) (rest := []) (row := .bare .rti) rfl rfl rfl rfl
theorem EncodedLength.eorIndX (b : Byte) : EncodedLength.Statement (.eorIndX b) :=
  encodedLength_of_row (op := 0x41#8) (rest := [b]) (row := .byte .eorIndX) rfl rfl rfl rfl
theorem EncodedLength.neg : EncodedLength.Statement (.neg) :=
  encodedLength_of_row (op := 0x42#8) (rest := []) (row := .bare .neg) rfl rfl rfl rfl
theorem EncodedLength.asrA : EncodedLength.Statement (.asrA) :=
  encodedLength_of_row (op := 0x43#8) (rest := []) (row := .bare .asrA) rfl rfl rfl rfl
theorem EncodedLength.asrBp (b : Byte) : EncodedLength.Statement (.asrBp b) :=
  encodedLength_of_row (op := 0x44#8) (rest := [b]) (row := .byte .asrBp) rfl rfl rfl rfl
theorem EncodedLength.eorBp (b : Byte) : EncodedLength.Statement (.eorBp b) :=
  encodedLength_of_row (op := 0x45#8) (rest := [b]) (row := .byte .eorBp) rfl rfl rfl rfl
theorem EncodedLength.lsrBp (b : Byte) : EncodedLength.Statement (.lsrBp b) :=
  encodedLength_of_row (op := 0x46#8) (rest := [b]) (row := .byte .lsrBp) rfl rfl rfl rfl
theorem EncodedLength.rmb4 (b : Byte) : EncodedLength.Statement (.rmb4 b) :=
  encodedLength_of_row (op := 0x47#8) (rest := [b]) (row := .byte .rmb4) rfl rfl rfl rfl
theorem EncodedLength.pha : EncodedLength.Statement (.pha) :=
  encodedLength_of_row (op := 0x48#8) (rest := []) (row := .bare .pha) rfl rfl rfl rfl
theorem EncodedLength.eorImm (v : Byte) : EncodedLength.Statement (.eorImm v) :=
  encodedLength_of_row (op := 0x49#8) (rest := [v]) (row := .byte .eorImm) rfl rfl rfl rfl
theorem EncodedLength.lsrA : EncodedLength.Statement (.lsrA) :=
  encodedLength_of_row (op := 0x4A#8) (rest := []) (row := .bare .lsrA) rfl rfl rfl rfl
theorem EncodedLength.taz : EncodedLength.Statement (.taz) :=
  encodedLength_of_row (op := 0x4B#8) (rest := []) (row := .bare .taz) rfl rfl rfl rfl
theorem EncodedLength.jmpAbs (w : Word) : EncodedLength.Statement (.jmpAbs w) :=
  encodedLength_of_row (op := 0x4C#8) (rest := [lowByte w, highByte w]) (row := .word .jmpAbs) rfl rfl rfl (congrArg Instr.jmpAbs (wordOf_high_low w))
theorem EncodedLength.eorAbs (w : Word) : EncodedLength.Statement (.eorAbs w) :=
  encodedLength_of_row (op := 0x4D#8) (rest := [lowByte w, highByte w]) (row := .word .eorAbs) rfl rfl rfl (congrArg Instr.eorAbs (wordOf_high_low w))
theorem EncodedLength.lsrAbs (w : Word) : EncodedLength.Statement (.lsrAbs w) :=
  encodedLength_of_row (op := 0x4E#8) (rest := [lowByte w, highByte w]) (row := .word .lsrAbs) rfl rfl rfl (congrArg Instr.lsrAbs (wordOf_high_low w))
theorem EncodedLength.bbr4 (b : Byte) (d : Byte) : EncodedLength.Statement (.bbr4 b d) :=
  encodedLength_of_row (op := 0x4F#8) (rest := [b, d]) (row := .bytes .bbr4) rfl rfl rfl rfl
theorem EncodedLength.bvcRel (d : Byte) : EncodedLength.Statement (.bvcRel d) :=
  encodedLength_of_row (op := 0x50#8) (rest := [d]) (row := .byte .bvcRel) rfl rfl rfl rfl
theorem EncodedLength.eorIndY (b : Byte) : EncodedLength.Statement (.eorIndY b) :=
  encodedLength_of_row (op := 0x51#8) (rest := [b]) (row := .byte .eorIndY) rfl rfl rfl rfl
theorem EncodedLength.eorIndZ (b : Byte) : EncodedLength.Statement (.eorIndZ b) :=
  encodedLength_of_row (op := 0x52#8) (rest := [b]) (row := .byte .eorIndZ) rfl rfl rfl rfl
theorem EncodedLength.bvcWord (d : Word) : EncodedLength.Statement (.bvcWord d) :=
  encodedLength_of_row (op := 0x53#8) (rest := [lowByte d, highByte d]) (row := .word .bvcWord) rfl rfl rfl (congrArg Instr.bvcWord (wordOf_high_low d))
theorem EncodedLength.asrBpX (b : Byte) : EncodedLength.Statement (.asrBpX b) :=
  encodedLength_of_row (op := 0x54#8) (rest := [b]) (row := .byte .asrBpX) rfl rfl rfl rfl
theorem EncodedLength.eorBpX (b : Byte) : EncodedLength.Statement (.eorBpX b) :=
  encodedLength_of_row (op := 0x55#8) (rest := [b]) (row := .byte .eorBpX) rfl rfl rfl rfl
theorem EncodedLength.lsrBpX (b : Byte) : EncodedLength.Statement (.lsrBpX b) :=
  encodedLength_of_row (op := 0x56#8) (rest := [b]) (row := .byte .lsrBpX) rfl rfl rfl rfl
theorem EncodedLength.rmb5 (b : Byte) : EncodedLength.Statement (.rmb5 b) :=
  encodedLength_of_row (op := 0x57#8) (rest := [b]) (row := .byte .rmb5) rfl rfl rfl rfl
theorem EncodedLength.cli : EncodedLength.Statement (.cli) :=
  encodedLength_of_row (op := 0x58#8) (rest := []) (row := .bare .cli) rfl rfl rfl rfl
theorem EncodedLength.eorAbsY (w : Word) : EncodedLength.Statement (.eorAbsY w) :=
  encodedLength_of_row (op := 0x59#8) (rest := [lowByte w, highByte w]) (row := .word .eorAbsY) rfl rfl rfl (congrArg Instr.eorAbsY (wordOf_high_low w))
theorem EncodedLength.phy : EncodedLength.Statement (.phy) :=
  encodedLength_of_row (op := 0x5A#8) (rest := []) (row := .bare .phy) rfl rfl rfl rfl
theorem EncodedLength.tab : EncodedLength.Statement (.tab) :=
  encodedLength_of_row (op := 0x5B#8) (rest := []) (row := .bare .tab) rfl rfl rfl rfl
theorem EncodedLength.aug : EncodedLength.Statement (.aug) :=
  encodedLength_of_row (op := 0x5C#8) (rest := [0#8, 0#8, 0#8]) (row := .skip 3 .aug) rfl rfl rfl rfl
theorem EncodedLength.eorAbsX (w : Word) : EncodedLength.Statement (.eorAbsX w) :=
  encodedLength_of_row (op := 0x5D#8) (rest := [lowByte w, highByte w]) (row := .word .eorAbsX) rfl rfl rfl (congrArg Instr.eorAbsX (wordOf_high_low w))
theorem EncodedLength.lsrAbsX (w : Word) : EncodedLength.Statement (.lsrAbsX w) :=
  encodedLength_of_row (op := 0x5E#8) (rest := [lowByte w, highByte w]) (row := .word .lsrAbsX) rfl rfl rfl (congrArg Instr.lsrAbsX (wordOf_high_low w))
theorem EncodedLength.bbr5 (b : Byte) (d : Byte) : EncodedLength.Statement (.bbr5 b d) :=
  encodedLength_of_row (op := 0x5F#8) (rest := [b, d]) (row := .bytes .bbr5) rfl rfl rfl rfl
theorem EncodedLength.rts : EncodedLength.Statement (.rts) :=
  encodedLength_of_row (op := 0x60#8) (rest := []) (row := .bare .rts) rfl rfl rfl rfl
theorem EncodedLength.adcIndX (b : Byte) : EncodedLength.Statement (.adcIndX b) :=
  encodedLength_of_row (op := 0x61#8) (rest := [b]) (row := .byte .adcIndX) rfl rfl rfl rfl
theorem EncodedLength.rtn (v : Byte) : EncodedLength.Statement (.rtn v) :=
  encodedLength_of_row (op := 0x62#8) (rest := [v]) (row := .byte .rtn) rfl rfl rfl rfl
theorem EncodedLength.bsr (d : Word) : EncodedLength.Statement (.bsr d) :=
  encodedLength_of_row (op := 0x63#8) (rest := [lowByte d, highByte d]) (row := .word .bsr) rfl rfl rfl (congrArg Instr.bsr (wordOf_high_low d))
theorem EncodedLength.stzBp (b : Byte) : EncodedLength.Statement (.stzBp b) :=
  encodedLength_of_row (op := 0x64#8) (rest := [b]) (row := .byte .stzBp) rfl rfl rfl rfl
theorem EncodedLength.adcBp (b : Byte) : EncodedLength.Statement (.adcBp b) :=
  encodedLength_of_row (op := 0x65#8) (rest := [b]) (row := .byte .adcBp) rfl rfl rfl rfl
theorem EncodedLength.rorBp (b : Byte) : EncodedLength.Statement (.rorBp b) :=
  encodedLength_of_row (op := 0x66#8) (rest := [b]) (row := .byte .rorBp) rfl rfl rfl rfl
theorem EncodedLength.rmb6 (b : Byte) : EncodedLength.Statement (.rmb6 b) :=
  encodedLength_of_row (op := 0x67#8) (rest := [b]) (row := .byte .rmb6) rfl rfl rfl rfl
theorem EncodedLength.pla : EncodedLength.Statement (.pla) :=
  encodedLength_of_row (op := 0x68#8) (rest := []) (row := .bare .pla) rfl rfl rfl rfl
theorem EncodedLength.adcImm (v : Byte) : EncodedLength.Statement (.adcImm v) :=
  encodedLength_of_row (op := 0x69#8) (rest := [v]) (row := .byte .adcImm) rfl rfl rfl rfl
theorem EncodedLength.rorA : EncodedLength.Statement (.rorA) :=
  encodedLength_of_row (op := 0x6A#8) (rest := []) (row := .bare .rorA) rfl rfl rfl rfl
theorem EncodedLength.tza : EncodedLength.Statement (.tza) :=
  encodedLength_of_row (op := 0x6B#8) (rest := []) (row := .bare .tza) rfl rfl rfl rfl
theorem EncodedLength.jmpInd (w : Word) : EncodedLength.Statement (.jmpInd w) :=
  encodedLength_of_row (op := 0x6C#8) (rest := [lowByte w, highByte w]) (row := .word .jmpInd) rfl rfl rfl (congrArg Instr.jmpInd (wordOf_high_low w))
theorem EncodedLength.adcAbs (w : Word) : EncodedLength.Statement (.adcAbs w) :=
  encodedLength_of_row (op := 0x6D#8) (rest := [lowByte w, highByte w]) (row := .word .adcAbs) rfl rfl rfl (congrArg Instr.adcAbs (wordOf_high_low w))
theorem EncodedLength.rorAbs (w : Word) : EncodedLength.Statement (.rorAbs w) :=
  encodedLength_of_row (op := 0x6E#8) (rest := [lowByte w, highByte w]) (row := .word .rorAbs) rfl rfl rfl (congrArg Instr.rorAbs (wordOf_high_low w))
theorem EncodedLength.bbr6 (b : Byte) (d : Byte) : EncodedLength.Statement (.bbr6 b d) :=
  encodedLength_of_row (op := 0x6F#8) (rest := [b, d]) (row := .bytes .bbr6) rfl rfl rfl rfl
theorem EncodedLength.bvsRel (d : Byte) : EncodedLength.Statement (.bvsRel d) :=
  encodedLength_of_row (op := 0x70#8) (rest := [d]) (row := .byte .bvsRel) rfl rfl rfl rfl
theorem EncodedLength.adcIndY (b : Byte) : EncodedLength.Statement (.adcIndY b) :=
  encodedLength_of_row (op := 0x71#8) (rest := [b]) (row := .byte .adcIndY) rfl rfl rfl rfl
theorem EncodedLength.adcIndZ (b : Byte) : EncodedLength.Statement (.adcIndZ b) :=
  encodedLength_of_row (op := 0x72#8) (rest := [b]) (row := .byte .adcIndZ) rfl rfl rfl rfl
theorem EncodedLength.bvsWord (d : Word) : EncodedLength.Statement (.bvsWord d) :=
  encodedLength_of_row (op := 0x73#8) (rest := [lowByte d, highByte d]) (row := .word .bvsWord) rfl rfl rfl (congrArg Instr.bvsWord (wordOf_high_low d))
theorem EncodedLength.stzBpX (b : Byte) : EncodedLength.Statement (.stzBpX b) :=
  encodedLength_of_row (op := 0x74#8) (rest := [b]) (row := .byte .stzBpX) rfl rfl rfl rfl
theorem EncodedLength.adcBpX (b : Byte) : EncodedLength.Statement (.adcBpX b) :=
  encodedLength_of_row (op := 0x75#8) (rest := [b]) (row := .byte .adcBpX) rfl rfl rfl rfl
theorem EncodedLength.rorBpX (b : Byte) : EncodedLength.Statement (.rorBpX b) :=
  encodedLength_of_row (op := 0x76#8) (rest := [b]) (row := .byte .rorBpX) rfl rfl rfl rfl
theorem EncodedLength.rmb7 (b : Byte) : EncodedLength.Statement (.rmb7 b) :=
  encodedLength_of_row (op := 0x77#8) (rest := [b]) (row := .byte .rmb7) rfl rfl rfl rfl
theorem EncodedLength.sei : EncodedLength.Statement (.sei) :=
  encodedLength_of_row (op := 0x78#8) (rest := []) (row := .bare .sei) rfl rfl rfl rfl
theorem EncodedLength.adcAbsY (w : Word) : EncodedLength.Statement (.adcAbsY w) :=
  encodedLength_of_row (op := 0x79#8) (rest := [lowByte w, highByte w]) (row := .word .adcAbsY) rfl rfl rfl (congrArg Instr.adcAbsY (wordOf_high_low w))
theorem EncodedLength.ply : EncodedLength.Statement (.ply) :=
  encodedLength_of_row (op := 0x7A#8) (rest := []) (row := .bare .ply) rfl rfl rfl rfl
theorem EncodedLength.tba : EncodedLength.Statement (.tba) :=
  encodedLength_of_row (op := 0x7B#8) (rest := []) (row := .bare .tba) rfl rfl rfl rfl
theorem EncodedLength.jmpIndX (w : Word) : EncodedLength.Statement (.jmpIndX w) :=
  encodedLength_of_row (op := 0x7C#8) (rest := [lowByte w, highByte w]) (row := .word .jmpIndX) rfl rfl rfl (congrArg Instr.jmpIndX (wordOf_high_low w))
theorem EncodedLength.adcAbsX (w : Word) : EncodedLength.Statement (.adcAbsX w) :=
  encodedLength_of_row (op := 0x7D#8) (rest := [lowByte w, highByte w]) (row := .word .adcAbsX) rfl rfl rfl (congrArg Instr.adcAbsX (wordOf_high_low w))
theorem EncodedLength.rorAbsX (w : Word) : EncodedLength.Statement (.rorAbsX w) :=
  encodedLength_of_row (op := 0x7E#8) (rest := [lowByte w, highByte w]) (row := .word .rorAbsX) rfl rfl rfl (congrArg Instr.rorAbsX (wordOf_high_low w))
theorem EncodedLength.bbr7 (b : Byte) (d : Byte) : EncodedLength.Statement (.bbr7 b d) :=
  encodedLength_of_row (op := 0x7F#8) (rest := [b, d]) (row := .bytes .bbr7) rfl rfl rfl rfl
theorem EncodedLength.bruRel (d : Byte) : EncodedLength.Statement (.bruRel d) :=
  encodedLength_of_row (op := 0x80#8) (rest := [d]) (row := .byte .bruRel) rfl rfl rfl rfl
theorem EncodedLength.staIndX (b : Byte) : EncodedLength.Statement (.staIndX b) :=
  encodedLength_of_row (op := 0x81#8) (rest := [b]) (row := .byte .staIndX) rfl rfl rfl rfl
theorem EncodedLength.staSpY (d : Byte) : EncodedLength.Statement (.staSpY d) :=
  encodedLength_of_row (op := 0x82#8) (rest := [d]) (row := .byte .staSpY) rfl rfl rfl rfl
theorem EncodedLength.bruWord (d : Word) : EncodedLength.Statement (.bruWord d) :=
  encodedLength_of_row (op := 0x83#8) (rest := [lowByte d, highByte d]) (row := .word .bruWord) rfl rfl rfl (congrArg Instr.bruWord (wordOf_high_low d))
theorem EncodedLength.styBp (b : Byte) : EncodedLength.Statement (.styBp b) :=
  encodedLength_of_row (op := 0x84#8) (rest := [b]) (row := .byte .styBp) rfl rfl rfl rfl
theorem EncodedLength.staBp (b : Byte) : EncodedLength.Statement (.staBp b) :=
  encodedLength_of_row (op := 0x85#8) (rest := [b]) (row := .byte .staBp) rfl rfl rfl rfl
theorem EncodedLength.stxBp (b : Byte) : EncodedLength.Statement (.stxBp b) :=
  encodedLength_of_row (op := 0x86#8) (rest := [b]) (row := .byte .stxBp) rfl rfl rfl rfl
theorem EncodedLength.smb0 (b : Byte) : EncodedLength.Statement (.smb0 b) :=
  encodedLength_of_row (op := 0x87#8) (rest := [b]) (row := .byte .smb0) rfl rfl rfl rfl
theorem EncodedLength.dey : EncodedLength.Statement (.dey) :=
  encodedLength_of_row (op := 0x88#8) (rest := []) (row := .bare .dey) rfl rfl rfl rfl
theorem EncodedLength.bitImm (v : Byte) : EncodedLength.Statement (.bitImm v) :=
  encodedLength_of_row (op := 0x89#8) (rest := [v]) (row := .byte .bitImm) rfl rfl rfl rfl
theorem EncodedLength.txa : EncodedLength.Statement (.txa) :=
  encodedLength_of_row (op := 0x8A#8) (rest := []) (row := .bare .txa) rfl rfl rfl rfl
theorem EncodedLength.styAbsX (w : Word) : EncodedLength.Statement (.styAbsX w) :=
  encodedLength_of_row (op := 0x8B#8) (rest := [lowByte w, highByte w]) (row := .word .styAbsX) rfl rfl rfl (congrArg Instr.styAbsX (wordOf_high_low w))
theorem EncodedLength.styAbs (w : Word) : EncodedLength.Statement (.styAbs w) :=
  encodedLength_of_row (op := 0x8C#8) (rest := [lowByte w, highByte w]) (row := .word .styAbs) rfl rfl rfl (congrArg Instr.styAbs (wordOf_high_low w))
theorem EncodedLength.staAbs (w : Word) : EncodedLength.Statement (.staAbs w) :=
  encodedLength_of_row (op := 0x8D#8) (rest := [lowByte w, highByte w]) (row := .word .staAbs) rfl rfl rfl (congrArg Instr.staAbs (wordOf_high_low w))
theorem EncodedLength.stxAbs (w : Word) : EncodedLength.Statement (.stxAbs w) :=
  encodedLength_of_row (op := 0x8E#8) (rest := [lowByte w, highByte w]) (row := .word .stxAbs) rfl rfl rfl (congrArg Instr.stxAbs (wordOf_high_low w))
theorem EncodedLength.bbs0 (b : Byte) (d : Byte) : EncodedLength.Statement (.bbs0 b d) :=
  encodedLength_of_row (op := 0x8F#8) (rest := [b, d]) (row := .bytes .bbs0) rfl rfl rfl rfl
theorem EncodedLength.bccRel (d : Byte) : EncodedLength.Statement (.bccRel d) :=
  encodedLength_of_row (op := 0x90#8) (rest := [d]) (row := .byte .bccRel) rfl rfl rfl rfl
theorem EncodedLength.staIndY (b : Byte) : EncodedLength.Statement (.staIndY b) :=
  encodedLength_of_row (op := 0x91#8) (rest := [b]) (row := .byte .staIndY) rfl rfl rfl rfl
theorem EncodedLength.staIndZ (b : Byte) : EncodedLength.Statement (.staIndZ b) :=
  encodedLength_of_row (op := 0x92#8) (rest := [b]) (row := .byte .staIndZ) rfl rfl rfl rfl
theorem EncodedLength.bccWord (d : Word) : EncodedLength.Statement (.bccWord d) :=
  encodedLength_of_row (op := 0x93#8) (rest := [lowByte d, highByte d]) (row := .word .bccWord) rfl rfl rfl (congrArg Instr.bccWord (wordOf_high_low d))
theorem EncodedLength.styBpX (b : Byte) : EncodedLength.Statement (.styBpX b) :=
  encodedLength_of_row (op := 0x94#8) (rest := [b]) (row := .byte .styBpX) rfl rfl rfl rfl
theorem EncodedLength.staBpX (b : Byte) : EncodedLength.Statement (.staBpX b) :=
  encodedLength_of_row (op := 0x95#8) (rest := [b]) (row := .byte .staBpX) rfl rfl rfl rfl
theorem EncodedLength.stxBpY (b : Byte) : EncodedLength.Statement (.stxBpY b) :=
  encodedLength_of_row (op := 0x96#8) (rest := [b]) (row := .byte .stxBpY) rfl rfl rfl rfl
theorem EncodedLength.smb1 (b : Byte) : EncodedLength.Statement (.smb1 b) :=
  encodedLength_of_row (op := 0x97#8) (rest := [b]) (row := .byte .smb1) rfl rfl rfl rfl
theorem EncodedLength.tya : EncodedLength.Statement (.tya) :=
  encodedLength_of_row (op := 0x98#8) (rest := []) (row := .bare .tya) rfl rfl rfl rfl
theorem EncodedLength.staAbsY (w : Word) : EncodedLength.Statement (.staAbsY w) :=
  encodedLength_of_row (op := 0x99#8) (rest := [lowByte w, highByte w]) (row := .word .staAbsY) rfl rfl rfl (congrArg Instr.staAbsY (wordOf_high_low w))
theorem EncodedLength.txs : EncodedLength.Statement (.txs) :=
  encodedLength_of_row (op := 0x9A#8) (rest := []) (row := .bare .txs) rfl rfl rfl rfl
theorem EncodedLength.stxAbsY (w : Word) : EncodedLength.Statement (.stxAbsY w) :=
  encodedLength_of_row (op := 0x9B#8) (rest := [lowByte w, highByte w]) (row := .word .stxAbsY) rfl rfl rfl (congrArg Instr.stxAbsY (wordOf_high_low w))
theorem EncodedLength.stzAbs (w : Word) : EncodedLength.Statement (.stzAbs w) :=
  encodedLength_of_row (op := 0x9C#8) (rest := [lowByte w, highByte w]) (row := .word .stzAbs) rfl rfl rfl (congrArg Instr.stzAbs (wordOf_high_low w))
theorem EncodedLength.staAbsX (w : Word) : EncodedLength.Statement (.staAbsX w) :=
  encodedLength_of_row (op := 0x9D#8) (rest := [lowByte w, highByte w]) (row := .word .staAbsX) rfl rfl rfl (congrArg Instr.staAbsX (wordOf_high_low w))
theorem EncodedLength.stzAbsX (w : Word) : EncodedLength.Statement (.stzAbsX w) :=
  encodedLength_of_row (op := 0x9E#8) (rest := [lowByte w, highByte w]) (row := .word .stzAbsX) rfl rfl rfl (congrArg Instr.stzAbsX (wordOf_high_low w))
theorem EncodedLength.bbs1 (b : Byte) (d : Byte) : EncodedLength.Statement (.bbs1 b d) :=
  encodedLength_of_row (op := 0x9F#8) (rest := [b, d]) (row := .bytes .bbs1) rfl rfl rfl rfl
theorem EncodedLength.ldyImm (v : Byte) : EncodedLength.Statement (.ldyImm v) :=
  encodedLength_of_row (op := 0xA0#8) (rest := [v]) (row := .byte .ldyImm) rfl rfl rfl rfl
theorem EncodedLength.ldaIndX (b : Byte) : EncodedLength.Statement (.ldaIndX b) :=
  encodedLength_of_row (op := 0xA1#8) (rest := [b]) (row := .byte .ldaIndX) rfl rfl rfl rfl
theorem EncodedLength.ldxImm (v : Byte) : EncodedLength.Statement (.ldxImm v) :=
  encodedLength_of_row (op := 0xA2#8) (rest := [v]) (row := .byte .ldxImm) rfl rfl rfl rfl
theorem EncodedLength.ldzImm (v : Byte) : EncodedLength.Statement (.ldzImm v) :=
  encodedLength_of_row (op := 0xA3#8) (rest := [v]) (row := .byte .ldzImm) rfl rfl rfl rfl
theorem EncodedLength.ldyBp (b : Byte) : EncodedLength.Statement (.ldyBp b) :=
  encodedLength_of_row (op := 0xA4#8) (rest := [b]) (row := .byte .ldyBp) rfl rfl rfl rfl
theorem EncodedLength.ldaBp (b : Byte) : EncodedLength.Statement (.ldaBp b) :=
  encodedLength_of_row (op := 0xA5#8) (rest := [b]) (row := .byte .ldaBp) rfl rfl rfl rfl
theorem EncodedLength.ldxBp (b : Byte) : EncodedLength.Statement (.ldxBp b) :=
  encodedLength_of_row (op := 0xA6#8) (rest := [b]) (row := .byte .ldxBp) rfl rfl rfl rfl
theorem EncodedLength.smb2 (b : Byte) : EncodedLength.Statement (.smb2 b) :=
  encodedLength_of_row (op := 0xA7#8) (rest := [b]) (row := .byte .smb2) rfl rfl rfl rfl
theorem EncodedLength.tay : EncodedLength.Statement (.tay) :=
  encodedLength_of_row (op := 0xA8#8) (rest := []) (row := .bare .tay) rfl rfl rfl rfl
theorem EncodedLength.ldaImm (v : Byte) : EncodedLength.Statement (.ldaImm v) :=
  encodedLength_of_row (op := 0xA9#8) (rest := [v]) (row := .byte .ldaImm) rfl rfl rfl rfl
theorem EncodedLength.tax : EncodedLength.Statement (.tax) :=
  encodedLength_of_row (op := 0xAA#8) (rest := []) (row := .bare .tax) rfl rfl rfl rfl
theorem EncodedLength.ldzAbs (w : Word) : EncodedLength.Statement (.ldzAbs w) :=
  encodedLength_of_row (op := 0xAB#8) (rest := [lowByte w, highByte w]) (row := .word .ldzAbs) rfl rfl rfl (congrArg Instr.ldzAbs (wordOf_high_low w))
theorem EncodedLength.ldyAbs (w : Word) : EncodedLength.Statement (.ldyAbs w) :=
  encodedLength_of_row (op := 0xAC#8) (rest := [lowByte w, highByte w]) (row := .word .ldyAbs) rfl rfl rfl (congrArg Instr.ldyAbs (wordOf_high_low w))
theorem EncodedLength.ldaAbs (w : Word) : EncodedLength.Statement (.ldaAbs w) :=
  encodedLength_of_row (op := 0xAD#8) (rest := [lowByte w, highByte w]) (row := .word .ldaAbs) rfl rfl rfl (congrArg Instr.ldaAbs (wordOf_high_low w))
theorem EncodedLength.ldxAbs (w : Word) : EncodedLength.Statement (.ldxAbs w) :=
  encodedLength_of_row (op := 0xAE#8) (rest := [lowByte w, highByte w]) (row := .word .ldxAbs) rfl rfl rfl (congrArg Instr.ldxAbs (wordOf_high_low w))
theorem EncodedLength.bbs2 (b : Byte) (d : Byte) : EncodedLength.Statement (.bbs2 b d) :=
  encodedLength_of_row (op := 0xAF#8) (rest := [b, d]) (row := .bytes .bbs2) rfl rfl rfl rfl
theorem EncodedLength.bcsRel (d : Byte) : EncodedLength.Statement (.bcsRel d) :=
  encodedLength_of_row (op := 0xB0#8) (rest := [d]) (row := .byte .bcsRel) rfl rfl rfl rfl
theorem EncodedLength.ldaIndY (b : Byte) : EncodedLength.Statement (.ldaIndY b) :=
  encodedLength_of_row (op := 0xB1#8) (rest := [b]) (row := .byte .ldaIndY) rfl rfl rfl rfl
theorem EncodedLength.ldaIndZ (b : Byte) : EncodedLength.Statement (.ldaIndZ b) :=
  encodedLength_of_row (op := 0xB2#8) (rest := [b]) (row := .byte .ldaIndZ) rfl rfl rfl rfl
theorem EncodedLength.bcsWord (d : Word) : EncodedLength.Statement (.bcsWord d) :=
  encodedLength_of_row (op := 0xB3#8) (rest := [lowByte d, highByte d]) (row := .word .bcsWord) rfl rfl rfl (congrArg Instr.bcsWord (wordOf_high_low d))
theorem EncodedLength.ldyBpX (b : Byte) : EncodedLength.Statement (.ldyBpX b) :=
  encodedLength_of_row (op := 0xB4#8) (rest := [b]) (row := .byte .ldyBpX) rfl rfl rfl rfl
theorem EncodedLength.ldaBpX (b : Byte) : EncodedLength.Statement (.ldaBpX b) :=
  encodedLength_of_row (op := 0xB5#8) (rest := [b]) (row := .byte .ldaBpX) rfl rfl rfl rfl
theorem EncodedLength.ldxBpY (b : Byte) : EncodedLength.Statement (.ldxBpY b) :=
  encodedLength_of_row (op := 0xB6#8) (rest := [b]) (row := .byte .ldxBpY) rfl rfl rfl rfl
theorem EncodedLength.smb3 (b : Byte) : EncodedLength.Statement (.smb3 b) :=
  encodedLength_of_row (op := 0xB7#8) (rest := [b]) (row := .byte .smb3) rfl rfl rfl rfl
theorem EncodedLength.clv : EncodedLength.Statement (.clv) :=
  encodedLength_of_row (op := 0xB8#8) (rest := []) (row := .bare .clv) rfl rfl rfl rfl
theorem EncodedLength.ldaAbsY (w : Word) : EncodedLength.Statement (.ldaAbsY w) :=
  encodedLength_of_row (op := 0xB9#8) (rest := [lowByte w, highByte w]) (row := .word .ldaAbsY) rfl rfl rfl (congrArg Instr.ldaAbsY (wordOf_high_low w))
theorem EncodedLength.tsx : EncodedLength.Statement (.tsx) :=
  encodedLength_of_row (op := 0xBA#8) (rest := []) (row := .bare .tsx) rfl rfl rfl rfl
theorem EncodedLength.ldzAbsX (w : Word) : EncodedLength.Statement (.ldzAbsX w) :=
  encodedLength_of_row (op := 0xBB#8) (rest := [lowByte w, highByte w]) (row := .word .ldzAbsX) rfl rfl rfl (congrArg Instr.ldzAbsX (wordOf_high_low w))
theorem EncodedLength.ldyAbsX (w : Word) : EncodedLength.Statement (.ldyAbsX w) :=
  encodedLength_of_row (op := 0xBC#8) (rest := [lowByte w, highByte w]) (row := .word .ldyAbsX) rfl rfl rfl (congrArg Instr.ldyAbsX (wordOf_high_low w))
theorem EncodedLength.ldaAbsX (w : Word) : EncodedLength.Statement (.ldaAbsX w) :=
  encodedLength_of_row (op := 0xBD#8) (rest := [lowByte w, highByte w]) (row := .word .ldaAbsX) rfl rfl rfl (congrArg Instr.ldaAbsX (wordOf_high_low w))
theorem EncodedLength.ldxAbsY (w : Word) : EncodedLength.Statement (.ldxAbsY w) :=
  encodedLength_of_row (op := 0xBE#8) (rest := [lowByte w, highByte w]) (row := .word .ldxAbsY) rfl rfl rfl (congrArg Instr.ldxAbsY (wordOf_high_low w))
theorem EncodedLength.bbs3 (b : Byte) (d : Byte) : EncodedLength.Statement (.bbs3 b d) :=
  encodedLength_of_row (op := 0xBF#8) (rest := [b, d]) (row := .bytes .bbs3) rfl rfl rfl rfl
theorem EncodedLength.cpyImm (v : Byte) : EncodedLength.Statement (.cpyImm v) :=
  encodedLength_of_row (op := 0xC0#8) (rest := [v]) (row := .byte .cpyImm) rfl rfl rfl rfl
theorem EncodedLength.cmpIndX (b : Byte) : EncodedLength.Statement (.cmpIndX b) :=
  encodedLength_of_row (op := 0xC1#8) (rest := [b]) (row := .byte .cmpIndX) rfl rfl rfl rfl
theorem EncodedLength.cpzImm (v : Byte) : EncodedLength.Statement (.cpzImm v) :=
  encodedLength_of_row (op := 0xC2#8) (rest := [v]) (row := .byte .cpzImm) rfl rfl rfl rfl
theorem EncodedLength.dew (b : Byte) : EncodedLength.Statement (.dew b) :=
  encodedLength_of_row (op := 0xC3#8) (rest := [b]) (row := .byte .dew) rfl rfl rfl rfl
theorem EncodedLength.cpyBp (b : Byte) : EncodedLength.Statement (.cpyBp b) :=
  encodedLength_of_row (op := 0xC4#8) (rest := [b]) (row := .byte .cpyBp) rfl rfl rfl rfl
theorem EncodedLength.cmpBp (b : Byte) : EncodedLength.Statement (.cmpBp b) :=
  encodedLength_of_row (op := 0xC5#8) (rest := [b]) (row := .byte .cmpBp) rfl rfl rfl rfl
theorem EncodedLength.decBp (b : Byte) : EncodedLength.Statement (.decBp b) :=
  encodedLength_of_row (op := 0xC6#8) (rest := [b]) (row := .byte .decBp) rfl rfl rfl rfl
theorem EncodedLength.smb4 (b : Byte) : EncodedLength.Statement (.smb4 b) :=
  encodedLength_of_row (op := 0xC7#8) (rest := [b]) (row := .byte .smb4) rfl rfl rfl rfl
theorem EncodedLength.iny : EncodedLength.Statement (.iny) :=
  encodedLength_of_row (op := 0xC8#8) (rest := []) (row := .bare .iny) rfl rfl rfl rfl
theorem EncodedLength.cmpImm (v : Byte) : EncodedLength.Statement (.cmpImm v) :=
  encodedLength_of_row (op := 0xC9#8) (rest := [v]) (row := .byte .cmpImm) rfl rfl rfl rfl
theorem EncodedLength.dex : EncodedLength.Statement (.dex) :=
  encodedLength_of_row (op := 0xCA#8) (rest := []) (row := .bare .dex) rfl rfl rfl rfl
theorem EncodedLength.asw (w : Word) : EncodedLength.Statement (.asw w) :=
  encodedLength_of_row (op := 0xCB#8) (rest := [lowByte w, highByte w]) (row := .word .asw) rfl rfl rfl (congrArg Instr.asw (wordOf_high_low w))
theorem EncodedLength.cpyAbs (w : Word) : EncodedLength.Statement (.cpyAbs w) :=
  encodedLength_of_row (op := 0xCC#8) (rest := [lowByte w, highByte w]) (row := .word .cpyAbs) rfl rfl rfl (congrArg Instr.cpyAbs (wordOf_high_low w))
theorem EncodedLength.cmpAbs (w : Word) : EncodedLength.Statement (.cmpAbs w) :=
  encodedLength_of_row (op := 0xCD#8) (rest := [lowByte w, highByte w]) (row := .word .cmpAbs) rfl rfl rfl (congrArg Instr.cmpAbs (wordOf_high_low w))
theorem EncodedLength.decAbs (w : Word) : EncodedLength.Statement (.decAbs w) :=
  encodedLength_of_row (op := 0xCE#8) (rest := [lowByte w, highByte w]) (row := .word .decAbs) rfl rfl rfl (congrArg Instr.decAbs (wordOf_high_low w))
theorem EncodedLength.bbs4 (b : Byte) (d : Byte) : EncodedLength.Statement (.bbs4 b d) :=
  encodedLength_of_row (op := 0xCF#8) (rest := [b, d]) (row := .bytes .bbs4) rfl rfl rfl rfl
theorem EncodedLength.bneRel (d : Byte) : EncodedLength.Statement (.bneRel d) :=
  encodedLength_of_row (op := 0xD0#8) (rest := [d]) (row := .byte .bneRel) rfl rfl rfl rfl
theorem EncodedLength.cmpIndY (b : Byte) : EncodedLength.Statement (.cmpIndY b) :=
  encodedLength_of_row (op := 0xD1#8) (rest := [b]) (row := .byte .cmpIndY) rfl rfl rfl rfl
theorem EncodedLength.cmpIndZ (b : Byte) : EncodedLength.Statement (.cmpIndZ b) :=
  encodedLength_of_row (op := 0xD2#8) (rest := [b]) (row := .byte .cmpIndZ) rfl rfl rfl rfl
theorem EncodedLength.bneWord (d : Word) : EncodedLength.Statement (.bneWord d) :=
  encodedLength_of_row (op := 0xD3#8) (rest := [lowByte d, highByte d]) (row := .word .bneWord) rfl rfl rfl (congrArg Instr.bneWord (wordOf_high_low d))
theorem EncodedLength.cpzBp (b : Byte) : EncodedLength.Statement (.cpzBp b) :=
  encodedLength_of_row (op := 0xD4#8) (rest := [b]) (row := .byte .cpzBp) rfl rfl rfl rfl
theorem EncodedLength.cmpBpX (b : Byte) : EncodedLength.Statement (.cmpBpX b) :=
  encodedLength_of_row (op := 0xD5#8) (rest := [b]) (row := .byte .cmpBpX) rfl rfl rfl rfl
theorem EncodedLength.decBpX (b : Byte) : EncodedLength.Statement (.decBpX b) :=
  encodedLength_of_row (op := 0xD6#8) (rest := [b]) (row := .byte .decBpX) rfl rfl rfl rfl
theorem EncodedLength.smb5 (b : Byte) : EncodedLength.Statement (.smb5 b) :=
  encodedLength_of_row (op := 0xD7#8) (rest := [b]) (row := .byte .smb5) rfl rfl rfl rfl
theorem EncodedLength.cld : EncodedLength.Statement (.cld) :=
  encodedLength_of_row (op := 0xD8#8) (rest := []) (row := .bare .cld) rfl rfl rfl rfl
theorem EncodedLength.cmpAbsY (w : Word) : EncodedLength.Statement (.cmpAbsY w) :=
  encodedLength_of_row (op := 0xD9#8) (rest := [lowByte w, highByte w]) (row := .word .cmpAbsY) rfl rfl rfl (congrArg Instr.cmpAbsY (wordOf_high_low w))
theorem EncodedLength.phx : EncodedLength.Statement (.phx) :=
  encodedLength_of_row (op := 0xDA#8) (rest := []) (row := .bare .phx) rfl rfl rfl rfl
theorem EncodedLength.phz : EncodedLength.Statement (.phz) :=
  encodedLength_of_row (op := 0xDB#8) (rest := []) (row := .bare .phz) rfl rfl rfl rfl
theorem EncodedLength.cpzAbs (w : Word) : EncodedLength.Statement (.cpzAbs w) :=
  encodedLength_of_row (op := 0xDC#8) (rest := [lowByte w, highByte w]) (row := .word .cpzAbs) rfl rfl rfl (congrArg Instr.cpzAbs (wordOf_high_low w))
theorem EncodedLength.cmpAbsX (w : Word) : EncodedLength.Statement (.cmpAbsX w) :=
  encodedLength_of_row (op := 0xDD#8) (rest := [lowByte w, highByte w]) (row := .word .cmpAbsX) rfl rfl rfl (congrArg Instr.cmpAbsX (wordOf_high_low w))
theorem EncodedLength.decAbsX (w : Word) : EncodedLength.Statement (.decAbsX w) :=
  encodedLength_of_row (op := 0xDE#8) (rest := [lowByte w, highByte w]) (row := .word .decAbsX) rfl rfl rfl (congrArg Instr.decAbsX (wordOf_high_low w))
theorem EncodedLength.bbs5 (b : Byte) (d : Byte) : EncodedLength.Statement (.bbs5 b d) :=
  encodedLength_of_row (op := 0xDF#8) (rest := [b, d]) (row := .bytes .bbs5) rfl rfl rfl rfl
theorem EncodedLength.cpxImm (v : Byte) : EncodedLength.Statement (.cpxImm v) :=
  encodedLength_of_row (op := 0xE0#8) (rest := [v]) (row := .byte .cpxImm) rfl rfl rfl rfl
theorem EncodedLength.sbcIndX (b : Byte) : EncodedLength.Statement (.sbcIndX b) :=
  encodedLength_of_row (op := 0xE1#8) (rest := [b]) (row := .byte .sbcIndX) rfl rfl rfl rfl
theorem EncodedLength.ldaSpY (d : Byte) : EncodedLength.Statement (.ldaSpY d) :=
  encodedLength_of_row (op := 0xE2#8) (rest := [d]) (row := .byte .ldaSpY) rfl rfl rfl rfl
theorem EncodedLength.inw (b : Byte) : EncodedLength.Statement (.inw b) :=
  encodedLength_of_row (op := 0xE3#8) (rest := [b]) (row := .byte .inw) rfl rfl rfl rfl
theorem EncodedLength.cpxBp (b : Byte) : EncodedLength.Statement (.cpxBp b) :=
  encodedLength_of_row (op := 0xE4#8) (rest := [b]) (row := .byte .cpxBp) rfl rfl rfl rfl
theorem EncodedLength.sbcBp (b : Byte) : EncodedLength.Statement (.sbcBp b) :=
  encodedLength_of_row (op := 0xE5#8) (rest := [b]) (row := .byte .sbcBp) rfl rfl rfl rfl
theorem EncodedLength.incBp (b : Byte) : EncodedLength.Statement (.incBp b) :=
  encodedLength_of_row (op := 0xE6#8) (rest := [b]) (row := .byte .incBp) rfl rfl rfl rfl
theorem EncodedLength.smb6 (b : Byte) : EncodedLength.Statement (.smb6 b) :=
  encodedLength_of_row (op := 0xE7#8) (rest := [b]) (row := .byte .smb6) rfl rfl rfl rfl
theorem EncodedLength.inx : EncodedLength.Statement (.inx) :=
  encodedLength_of_row (op := 0xE8#8) (rest := []) (row := .bare .inx) rfl rfl rfl rfl
theorem EncodedLength.sbcImm (v : Byte) : EncodedLength.Statement (.sbcImm v) :=
  encodedLength_of_row (op := 0xE9#8) (rest := [v]) (row := .byte .sbcImm) rfl rfl rfl rfl
theorem EncodedLength.nop : EncodedLength.Statement (.nop) :=
  encodedLength_of_row (op := 0xEA#8) (rest := []) (row := .bare .nop) rfl rfl rfl rfl
theorem EncodedLength.row (w : Word) : EncodedLength.Statement (.row w) :=
  encodedLength_of_row (op := 0xEB#8) (rest := [lowByte w, highByte w]) (row := .word .row) rfl rfl rfl (congrArg Instr.row (wordOf_high_low w))
theorem EncodedLength.cpxAbs (w : Word) : EncodedLength.Statement (.cpxAbs w) :=
  encodedLength_of_row (op := 0xEC#8) (rest := [lowByte w, highByte w]) (row := .word .cpxAbs) rfl rfl rfl (congrArg Instr.cpxAbs (wordOf_high_low w))
theorem EncodedLength.sbcAbs (w : Word) : EncodedLength.Statement (.sbcAbs w) :=
  encodedLength_of_row (op := 0xED#8) (rest := [lowByte w, highByte w]) (row := .word .sbcAbs) rfl rfl rfl (congrArg Instr.sbcAbs (wordOf_high_low w))
theorem EncodedLength.incAbs (w : Word) : EncodedLength.Statement (.incAbs w) :=
  encodedLength_of_row (op := 0xEE#8) (rest := [lowByte w, highByte w]) (row := .word .incAbs) rfl rfl rfl (congrArg Instr.incAbs (wordOf_high_low w))
theorem EncodedLength.bbs6 (b : Byte) (d : Byte) : EncodedLength.Statement (.bbs6 b d) :=
  encodedLength_of_row (op := 0xEF#8) (rest := [b, d]) (row := .bytes .bbs6) rfl rfl rfl rfl
theorem EncodedLength.beqRel (d : Byte) : EncodedLength.Statement (.beqRel d) :=
  encodedLength_of_row (op := 0xF0#8) (rest := [d]) (row := .byte .beqRel) rfl rfl rfl rfl
theorem EncodedLength.sbcIndY (b : Byte) : EncodedLength.Statement (.sbcIndY b) :=
  encodedLength_of_row (op := 0xF1#8) (rest := [b]) (row := .byte .sbcIndY) rfl rfl rfl rfl
theorem EncodedLength.sbcIndZ (b : Byte) : EncodedLength.Statement (.sbcIndZ b) :=
  encodedLength_of_row (op := 0xF2#8) (rest := [b]) (row := .byte .sbcIndZ) rfl rfl rfl rfl
theorem EncodedLength.beqWord (d : Word) : EncodedLength.Statement (.beqWord d) :=
  encodedLength_of_row (op := 0xF3#8) (rest := [lowByte d, highByte d]) (row := .word .beqWord) rfl rfl rfl (congrArg Instr.beqWord (wordOf_high_low d))
theorem EncodedLength.phwImm (w : Word) : EncodedLength.Statement (.phwImm w) :=
  encodedLength_of_row (op := 0xF4#8) (rest := [lowByte w, highByte w]) (row := .word .phwImm) rfl rfl rfl (congrArg Instr.phwImm (wordOf_high_low w))
theorem EncodedLength.sbcBpX (b : Byte) : EncodedLength.Statement (.sbcBpX b) :=
  encodedLength_of_row (op := 0xF5#8) (rest := [b]) (row := .byte .sbcBpX) rfl rfl rfl rfl
theorem EncodedLength.incBpX (b : Byte) : EncodedLength.Statement (.incBpX b) :=
  encodedLength_of_row (op := 0xF6#8) (rest := [b]) (row := .byte .incBpX) rfl rfl rfl rfl
theorem EncodedLength.smb7 (b : Byte) : EncodedLength.Statement (.smb7 b) :=
  encodedLength_of_row (op := 0xF7#8) (rest := [b]) (row := .byte .smb7) rfl rfl rfl rfl
theorem EncodedLength.sed : EncodedLength.Statement (.sed) :=
  encodedLength_of_row (op := 0xF8#8) (rest := []) (row := .bare .sed) rfl rfl rfl rfl
theorem EncodedLength.sbcAbsY (w : Word) : EncodedLength.Statement (.sbcAbsY w) :=
  encodedLength_of_row (op := 0xF9#8) (rest := [lowByte w, highByte w]) (row := .word .sbcAbsY) rfl rfl rfl (congrArg Instr.sbcAbsY (wordOf_high_low w))
theorem EncodedLength.plx : EncodedLength.Statement (.plx) :=
  encodedLength_of_row (op := 0xFA#8) (rest := []) (row := .bare .plx) rfl rfl rfl rfl
theorem EncodedLength.plz : EncodedLength.Statement (.plz) :=
  encodedLength_of_row (op := 0xFB#8) (rest := []) (row := .bare .plz) rfl rfl rfl rfl
theorem EncodedLength.phwAbs (w : Word) : EncodedLength.Statement (.phwAbs w) :=
  encodedLength_of_row (op := 0xFC#8) (rest := [lowByte w, highByte w]) (row := .word .phwAbs) rfl rfl rfl (congrArg Instr.phwAbs (wordOf_high_low w))
theorem EncodedLength.sbcAbsX (w : Word) : EncodedLength.Statement (.sbcAbsX w) :=
  encodedLength_of_row (op := 0xFD#8) (rest := [lowByte w, highByte w]) (row := .word .sbcAbsX) rfl rfl rfl (congrArg Instr.sbcAbsX (wordOf_high_low w))
theorem EncodedLength.incAbsX (w : Word) : EncodedLength.Statement (.incAbsX w) :=
  encodedLength_of_row (op := 0xFE#8) (rest := [lowByte w, highByte w]) (row := .word .incAbsX) rfl rfl rfl (congrArg Instr.incAbsX (wordOf_high_low w))
theorem EncodedLength.bbs7 (b : Byte) (d : Byte) : EncodedLength.Statement (.bbs7 b d) :=
  encodedLength_of_row (op := 0xFF#8) (rest := [b, d]) (row := .bytes .bbs7) rfl rfl rfl rfl

end Sys2Proof.Laws
end

