-- ==== Sys2Proof/Laws/Psg.lean ====
section
/-! SUPPORT. What the PSG block's operations do, one lemma for each shared operation. -/

namespace Sys2Proof.Machine

variable (p : Psg)

/-- One channel replaced: the others keep their value. -/
@[simp] theorem PerChannel.get_set {α : Type} (v : PerChannel α) (ch ch' : Channel) (x : α) :
    (v.set ch x).get ch' = if ch' = ch then x else v.get ch' := by
  cases ch <;> cases ch' <;> rfl

/-- Two triples are equal when they agree on every channel. -/
theorem PerChannel.ext_get {α : Type} {v w : PerChannel α} (h : ∀ ch, v.get ch = w.get ch) : v = w := by
  cases v; cases w
  have ha := h .a; have hb := h .b; have hc := h .c
  simp only [PerChannel.get] at ha hb hc
  rw [ha, hb, hc]

/-- Every constructed block has a positive clock (R11, R123, R901). -/
theorem Psg.construct_clock_pos (cfg : PsgConfig) : 0 < (Psg.construct cfg).clock := cfg.defaultClock.pos

/-- Every constructed block has a non-zero seed (R11, R124, R901). -/
theorem Psg.construct_seed_ne_zero (cfg : PsgConfig) : (Psg.construct cfg).seed ≠ 0x0000#16 := cfg.seedInit.property

/-- A good write replaces the raw byte, then recomputes what the register owns (R902). -/
theorem Psg.writeRegister_ok {address value : Nat} (ha : address < 16) (hv : value < 256) :
    p.writeRegister address value =
      .ok (Psg.recompute { p with regs := p.regs.set address (BitVec.ofNat 8 value) ha } address) := by
  have h1 : (0 : Int) ≤ (address : Int) ∧ (address : Int) < 16 := by omega
  have h2 : (0 : Int) ≤ (value : Int) ∧ (value : Int) ≤ 255 := by omega
  simp [Psg.writeRegister, h1, h2]

/-- The raw byte of a good address is read (R903). -/
theorem Psg.readRegister_ok {address : Nat} (ha : address < 16) : p.readRegister address = .ok p.regs[address] := by
  have h1 : (0 : Int) ≤ (address : Int) ∧ (address : Int) < 16 := by omega
  simp [Psg.readRegister, h1]

/-- A recomputation writes derived state only (R904). -/
theorem Psg.recompute_frame (address : Nat) :
    p.recompute address = { p with
      toneStep := (p.recompute address).toneStep
      noiseStep := (p.recompute address).noiseStep
      toneGate := (p.recompute address).toneGate
      noiseGate := (p.recompute address).noiseGate
      volume := (p.recompute address).volume
      envEnable := (p.recompute address).envEnable } := by
  unfold Psg.recompute; split <;> rfl

/-- The noise generator advanced: its counter and the seed, nothing else (R909). -/
theorem Psg.noiseAdvance_eq :
    p.noiseAdvance = { p with
      noiseCount := if p.noiseCount + p.baseStep > p.noiseStep then p.noiseCount + p.baseStep - p.noiseStep
        else p.noiseCount + p.baseStep
      seed := if p.noiseCount + p.baseStep > p.noiseStep then lfsrNext p.cfg.noiseTap p.seed else p.seed } := by
  by_cases h : p.noiseCount + p.baseStep > p.noiseStep <;> simp [Psg.noiseAdvance, h]

/-- One channel advanced: its counter and its state, nothing else (R910). -/
theorem Psg.toneAdvance_eq (ch : Channel) :
    p.toneAdvance ch = { p with
      toneCount := p.toneCount.set ch (if p.toneCount.get ch + p.baseStep > p.toneStep.get ch
        then p.toneCount.get ch + p.baseStep - p.toneStep.get ch else p.toneCount.get ch + p.baseStep)
      active := p.active.set ch (if p.toneCount.get ch + p.baseStep > p.toneStep.get ch
        then !p.active.get ch else p.active.get ch) } := by
  by_cases h : p.toneCount.get ch + p.baseStep > p.toneStep.get ch
  · simp [Psg.toneAdvance, h]
  · have e : p.active.set ch (p.active.get ch) = p.active := by cases ch <;> rfl
    simp [Psg.toneAdvance, h, e]

/-- All four generators advanced, once each (R908): the counters, the states and the seed, nothing else. -/
theorem Psg.advanceCounters_eq :
    p.advanceCounters = { p with
      noiseCount := p.noiseAdvance.noiseCount
      seed := p.noiseAdvance.seed
      toneCount := p.advanceCounters.toneCount
      active := p.advanceCounters.active } := by
  simp only [Psg.advanceCounters, Psg.toneAdvance_eq, Psg.noiseAdvance_eq]

/-- What each channel's counter becomes, and whether the channel toggles, in one pair (R910). -/
theorem Psg.advanceCounters_tone (ch : Channel) :
    p.advanceCounters.toneCount.get ch = (if p.toneCount.get ch + p.baseStep > p.toneStep.get ch
        then p.toneCount.get ch + p.baseStep - p.toneStep.get ch else p.toneCount.get ch + p.baseStep) ∧
      p.advanceCounters.active.get ch = (if p.toneCount.get ch + p.baseStep > p.toneStep.get ch
        then !p.active.get ch else p.active.get ch) := by
  cases ch <;> simp [Psg.advanceCounters, Psg.toneAdvance_eq, Psg.noiseAdvance_eq]

/-- A stored pair changes two slots and the count of free values (R914). -/
theorem Psg.storePair_frame (k s : Nat) :
    p.storePair k s =
      { p with buffer := (p.storePair k s).buffer, sampleDraws := (p.storePair k s).sampleDraws } := rfl

/-- The buffer keeps its length (R908). -/
@[simp] theorem Psg.storePair_buffer_length (k s : Nat) : (p.storePair k s).buffer.length = p.buffer.length := by
  simp [Psg.storePair]

/-- Pairs are generated in order: n more after the first m (R908). -/
theorem Psg.generatePairs_add (k m n : Nat) :
    p.generatePairs k (m + n) = (p.generatePairs k m).generatePairs (k + m) n := by
  induction m generalizing p k with
  | zero => simp [Psg.generatePairs]
  | succ m ih =>
    rw [Nat.succ_add, Psg.generatePairs, ih, Psg.generatePairs, Nat.add_right_comm, Nat.add_assoc]

/-- A count that is not negative and fits the buffer generates its whole pairs (R908). -/
theorem Psg.generate_ok {n : Nat} (h : 2 * (n / 2) ≤ p.bufferLength) :
    p.generate n = .ok (p.generatePairs 0 (n / 2)) := by
  have h1 : ¬((n : Int) < 0) := by omega
  simp [Psg.generate, h1, h]

end Sys2Proof.Machine
end

