-- ==== Sys2Proof/Laws/Step.lean ====
section
/-! SUPPORT. What one step does before the instruction's own meaning. -/

namespace Sys2Proof.Machine

/-- The state in which the step of `op` runs: opcode read, PC past it, cost charged (R401). -/
def State.prologue (s : State) : State :=
  ((s.beginStep.afterRead s.pc).advance 1).charge (s.portByte s.pc)

/-- With no port bound the step answers the configuration fault (R403). -/
theorem step_noMemory {s : State} (h : s.bound = false) : step s = .fault .configFaultNoMemory := by
  simp [step, h]

/-- While FAULTED the step answers the halted stack fault (R403). -/
theorem step_halted {s : State} (hb : s.bound = true) (h : s.faulted = true) : step s = .fault .stackFaultHalted := by
  simp [step, hb, h]

/-- The step of an opcode outside IMPLEMENTED (R404). -/
theorem step_unimplemented {s : State} (hb : s.bound = true) (hf : s.faulted = false)
    (h : s.cfg.implements (s.portByte s.pc) = false) :
    step s = .next (s.prologue.unimplemented (s.portByte s.pc)) := by
  have h' : (s.prologue).cfg.implements (s.portByte s.pc) = false := h
  simp only [step, hb, hf]
  exact if_neg (fun e => Bool.noConfusion (h'.symm.trans e))

/-- The step of an opcode of IMPLEMENTED runs the instruction built from its operand bytes (R402). -/
theorem step_implemented {s : State} (hb : s.bound = true) (hf : s.faulted = false)
    (h : s.cfg.implements (s.portByte s.pc) = true) :
    step s = exec (s.prologue.fetchOperands (s.portByte s.pc)).1 (s.prologue.fetchOperands (s.portByte s.pc)).2 := by
  have h' : (s.prologue).cfg.implements (s.portByte s.pc) = true := h
  simp only [step, hb, hf]
  exact if_pos h'

/-- A step that answers a next state had a port bound and no stack fault pending, and is one of the two above. -/
theorem step_next {s t : State} (h : step s = .next t) :
    s.bound = true ∧ s.faulted = false ∧
      (s.cfg.implements (s.portByte s.pc) = false ∧ t = s.prologue.unimplemented (s.portByte s.pc) ∨
        s.cfg.implements (s.portByte s.pc) = true ∧
          exec (s.prologue.fetchOperands (s.portByte s.pc)).1 (s.prologue.fetchOperands (s.portByte s.pc)).2 = .next t) := by
  cases hb : s.bound
  · rw [step_noMemory hb] at h; cases h
  · cases hf : s.faulted
    · refine ⟨rfl, rfl, ?_⟩
      cases hi : s.cfg.implements (s.portByte s.pc)
      · rw [step_unimplemented hb hf hi] at h; cases h; exact .inl ⟨rfl, rfl⟩
      · rw [step_implemented hb hf hi] at h; exact .inr ⟨rfl, h⟩
    · rw [step_halted hb hf] at h; cases h

/-- The operand fetch reads bytes; it changes the record of port operations and the draws, nothing else. -/
theorem State.fetchOperands_frame (s : State) (op : Byte) :
    (s.fetchOperands op).2 =
      { s with ioDraws := (s.fetchOperands op).2.ioDraws, portOps := (s.fetchOperands op).2.portOps } := by
  unfold State.fetchOperands
  cases opcodeRow op <;> rfl

end Sys2Proof.Machine
end

