-- ==== Sys2Proof/Tests/Slice0.lean ====
section
/-! SUPPORT. Tests on fixed values: decoding, well-formedness, one step on a small state, and a state that meets the
hypotheses of each statement. Expected values are from the spec: the encodings of R301 and R305 (spec/opcode_table.json),
the vectors V<n> of 95_test_vectors. -/

namespace Sys2Proof.Tests

open Sys2Proof.Machine

/-! Well-formedness (R309, R310, R312). -/

theorem test_wellFormed_lda : (Instr.ldaImm 0x00#8).wellFormed Config.defaultCpu = true := by decide
theorem test_wellFormed_refuses_tab : Instr.tab.wellFormed Config.defaultCpu = false := by decide
theorem test_wellFormed_refuses_tba : Instr.tba.wellFormed Config.defaultCpu = false := by decide
theorem test_wellFormed_refuses_left_out :
    Instr.nop.wellFormed { Config.defaultCpu with unimplemented := [0xEA#8] } = false := by decide
theorem test_wellFormed_refuses_extended_only :
    Instr.inz.wellFormed { Config.defaultCpu with extended := false } = false := by decide

/-! Decoding: every opcode, operand bytes 0x34 then 0x12 where it has them (R301, R305). -/

theorem test_decode_row_0x :
    [[0x00#8, 0x34#8], [0x01#8, 0x34#8], [0x02#8], [0x03#8], [0x04#8, 0x34#8], [0x05#8, 0x34#8],
     [0x06#8, 0x34#8], [0x07#8, 0x34#8], [0x08#8], [0x09#8, 0x34#8], [0x0A#8], [0x0B#8],
     [0x0C#8, 0x34#8, 0x12#8], [0x0D#8, 0x34#8, 0x12#8], [0x0E#8, 0x34#8, 0x12#8], [0x0F#8, 0x34#8, 0x12#8]].map decode
    = [.brk, .oraIndX 0x34#8, .cle, .see, .tsbBp 0x34#8, .oraBp 0x34#8, .aslBp 0x34#8, .rmb0 0x34#8, .php,
     .oraImm 0x34#8, .aslA, .tsy, .tsbAbs 0x1234#16, .oraAbs 0x1234#16, .aslAbs 0x1234#16, .bbr0 0x34#8 0x12#8].map
      (fun i : Instr => .ok (i, [])) := by rfl

theorem test_decode_row_1x :
    [[0x10#8, 0x34#8], [0x11#8, 0x34#8], [0x12#8, 0x34#8], [0x13#8, 0x34#8, 0x12#8], [0x14#8, 0x34#8],
     [0x15#8, 0x34#8], [0x16#8, 0x34#8], [0x17#8, 0x34#8], [0x18#8], [0x19#8, 0x34#8, 0x12#8], [0x1A#8],
     [0x1B#8], [0x1C#8, 0x34#8, 0x12#8], [0x1D#8, 0x34#8, 0x12#8], [0x1E#8, 0x34#8, 0x12#8],
     [0x1F#8, 0x34#8, 0x12#8]].map decode
    = [.bplRel 0x34#8, .oraIndY 0x34#8, .oraIndZ 0x34#8, .bplWord 0x1234#16, .trbBp 0x34#8, .oraBpX 0x34#8,
     .aslBpX 0x34#8, .rmb1 0x34#8, .clc, .oraAbsY 0x1234#16, .incA, .inz, .trbAbs 0x1234#16,
     .oraAbsX 0x1234#16, .aslAbsX 0x1234#16, .bbr1 0x34#8 0x12#8].map
      (fun i : Instr => .ok (i, [])) := by rfl

theorem test_decode_row_2x :
    [[0x20#8, 0x34#8, 0x12#8], [0x21#8, 0x34#8], [0x22#8, 0x34#8, 0x12#8], [0x23#8, 0x34#8, 0x12#8],
     [0x24#8, 0x34#8], [0x25#8, 0x34#8], [0x26#8, 0x34#8], [0x27#8, 0x34#8], [0x28#8], [0x29#8, 0x34#8],
     [0x2A#8], [0x2B#8], [0x2C#8, 0x34#8, 0x12#8], [0x2D#8, 0x34#8, 0x12#8], [0x2E#8, 0x34#8, 0x12#8],
     [0x2F#8, 0x34#8, 0x12#8]].map decode
    = [.jsrAbs 0x1234#16, .andIndX 0x34#8, .jsrInd 0x1234#16, .jsrIndX 0x1234#16, .bitBp 0x34#8, .andBp 0x34#8,
     .rolBp 0x34#8, .rmb2 0x34#8, .plp, .andImm 0x34#8, .rolA, .tys, .bitAbs 0x1234#16, .andAbs 0x1234#16,
     .rolAbs 0x1234#16, .bbr2 0x34#8 0x12#8].map
      (fun i : Instr => .ok (i, [])) := by rfl

theorem test_decode_row_3x :
    [[0x30#8, 0x34#8], [0x31#8, 0x34#8], [0x32#8, 0x34#8], [0x33#8, 0x34#8, 0x12#8], [0x34#8, 0x34#8],
     [0x35#8, 0x34#8], [0x36#8, 0x34#8], [0x37#8, 0x34#8], [0x38#8], [0x39#8, 0x34#8, 0x12#8], [0x3A#8],
     [0x3B#8], [0x3C#8, 0x34#8, 0x12#8], [0x3D#8, 0x34#8, 0x12#8], [0x3E#8, 0x34#8, 0x12#8],
     [0x3F#8, 0x34#8, 0x12#8]].map decode
    = [.bmiRel 0x34#8, .andIndY 0x34#8, .andIndZ 0x34#8, .bmiWord 0x1234#16, .bitBpX 0x34#8, .andBpX 0x34#8,
     .rolBpX 0x34#8, .rmb3 0x34#8, .sec, .andAbsY 0x1234#16, .decA, .dez, .bitAbsX 0x1234#16,
     .andAbsX 0x1234#16, .rolAbsX 0x1234#16, .bbr3 0x34#8 0x12#8].map
      (fun i : Instr => .ok (i, [])) := by rfl

theorem test_decode_row_4x :
    [[0x40#8], [0x41#8, 0x34#8], [0x42#8], [0x43#8], [0x44#8, 0x34#8], [0x45#8, 0x34#8], [0x46#8, 0x34#8],
     [0x47#8, 0x34#8], [0x48#8], [0x49#8, 0x34#8], [0x4A#8], [0x4B#8], [0x4C#8, 0x34#8, 0x12#8],
     [0x4D#8, 0x34#8, 0x12#8], [0x4E#8, 0x34#8, 0x12#8], [0x4F#8, 0x34#8, 0x12#8]].map decode
    = [.rti, .eorIndX 0x34#8, .neg, .asrA, .asrBp 0x34#8, .eorBp 0x34#8, .lsrBp 0x34#8, .rmb4 0x34#8, .pha,
     .eorImm 0x34#8, .lsrA, .taz, .jmpAbs 0x1234#16, .eorAbs 0x1234#16, .lsrAbs 0x1234#16, .bbr4 0x34#8 0x12#8].map
      (fun i : Instr => .ok (i, [])) := by rfl

theorem test_decode_row_5x :
    [[0x50#8, 0x34#8], [0x51#8, 0x34#8], [0x52#8, 0x34#8], [0x53#8, 0x34#8, 0x12#8], [0x54#8, 0x34#8],
     [0x55#8, 0x34#8], [0x56#8, 0x34#8], [0x57#8, 0x34#8], [0x58#8], [0x59#8, 0x34#8, 0x12#8], [0x5A#8],
     [0x5B#8], [0x5C#8, 0x34#8, 0x12#8, 0x00#8], [0x5D#8, 0x34#8, 0x12#8], [0x5E#8, 0x34#8, 0x12#8],
     [0x5F#8, 0x34#8, 0x12#8]].map decode
    = [.bvcRel 0x34#8, .eorIndY 0x34#8, .eorIndZ 0x34#8, .bvcWord 0x1234#16, .asrBpX 0x34#8, .eorBpX 0x34#8,
     .lsrBpX 0x34#8, .rmb5 0x34#8, .cli, .eorAbsY 0x1234#16, .phy, .tab, .aug, .eorAbsX 0x1234#16,
     .lsrAbsX 0x1234#16, .bbr5 0x34#8 0x12#8].map
      (fun i : Instr => .ok (i, [])) := by rfl

theorem test_decode_row_6x :
    [[0x60#8], [0x61#8, 0x34#8], [0x62#8, 0x34#8], [0x63#8, 0x34#8, 0x12#8], [0x64#8, 0x34#8],
     [0x65#8, 0x34#8], [0x66#8, 0x34#8], [0x67#8, 0x34#8], [0x68#8], [0x69#8, 0x34#8], [0x6A#8], [0x6B#8],
     [0x6C#8, 0x34#8, 0x12#8], [0x6D#8, 0x34#8, 0x12#8], [0x6E#8, 0x34#8, 0x12#8], [0x6F#8, 0x34#8, 0x12#8]].map decode
    = [.rts, .adcIndX 0x34#8, .rtn 0x34#8, .bsr 0x1234#16, .stzBp 0x34#8, .adcBp 0x34#8, .rorBp 0x34#8,
     .rmb6 0x34#8, .pla, .adcImm 0x34#8, .rorA, .tza, .jmpInd 0x1234#16, .adcAbs 0x1234#16,
     .rorAbs 0x1234#16, .bbr6 0x34#8 0x12#8].map
      (fun i : Instr => .ok (i, [])) := by rfl

theorem test_decode_row_7x :
    [[0x70#8, 0x34#8], [0x71#8, 0x34#8], [0x72#8, 0x34#8], [0x73#8, 0x34#8, 0x12#8], [0x74#8, 0x34#8],
     [0x75#8, 0x34#8], [0x76#8, 0x34#8], [0x77#8, 0x34#8], [0x78#8], [0x79#8, 0x34#8, 0x12#8], [0x7A#8],
     [0x7B#8], [0x7C#8, 0x34#8, 0x12#8], [0x7D#8, 0x34#8, 0x12#8], [0x7E#8, 0x34#8, 0x12#8],
     [0x7F#8, 0x34#8, 0x12#8]].map decode
    = [.bvsRel 0x34#8, .adcIndY 0x34#8, .adcIndZ 0x34#8, .bvsWord 0x1234#16, .stzBpX 0x34#8, .adcBpX 0x34#8,
     .rorBpX 0x34#8, .rmb7 0x34#8, .sei, .adcAbsY 0x1234#16, .ply, .tba, .jmpIndX 0x1234#16,
     .adcAbsX 0x1234#16, .rorAbsX 0x1234#16, .bbr7 0x34#8 0x12#8].map
      (fun i : Instr => .ok (i, [])) := by rfl

theorem test_decode_row_8x :
    [[0x80#8, 0x34#8], [0x81#8, 0x34#8], [0x82#8, 0x34#8], [0x83#8, 0x34#8, 0x12#8], [0x84#8, 0x34#8],
     [0x85#8, 0x34#8], [0x86#8, 0x34#8], [0x87#8, 0x34#8], [0x88#8], [0x89#8, 0x34#8], [0x8A#8],
     [0x8B#8, 0x34#8, 0x12#8], [0x8C#8, 0x34#8, 0x12#8], [0x8D#8, 0x34#8, 0x12#8], [0x8E#8, 0x34#8, 0x12#8],
     [0x8F#8, 0x34#8, 0x12#8]].map decode
    = [.bruRel 0x34#8, .staIndX 0x34#8, .staSpY 0x34#8, .bruWord 0x1234#16, .styBp 0x34#8, .staBp 0x34#8,
     .stxBp 0x34#8, .smb0 0x34#8, .dey, .bitImm 0x34#8, .txa, .styAbsX 0x1234#16, .styAbs 0x1234#16,
     .staAbs 0x1234#16, .stxAbs 0x1234#16, .bbs0 0x34#8 0x12#8].map
      (fun i : Instr => .ok (i, [])) := by rfl

theorem test_decode_row_9x :
    [[0x90#8, 0x34#8], [0x91#8, 0x34#8], [0x92#8, 0x34#8], [0x93#8, 0x34#8, 0x12#8], [0x94#8, 0x34#8],
     [0x95#8, 0x34#8], [0x96#8, 0x34#8], [0x97#8, 0x34#8], [0x98#8], [0x99#8, 0x34#8, 0x12#8], [0x9A#8],
     [0x9B#8, 0x34#8, 0x12#8], [0x9C#8, 0x34#8, 0x12#8], [0x9D#8, 0x34#8, 0x12#8], [0x9E#8, 0x34#8, 0x12#8],
     [0x9F#8, 0x34#8, 0x12#8]].map decode
    = [.bccRel 0x34#8, .staIndY 0x34#8, .staIndZ 0x34#8, .bccWord 0x1234#16, .styBpX 0x34#8, .staBpX 0x34#8,
     .stxBpY 0x34#8, .smb1 0x34#8, .tya, .staAbsY 0x1234#16, .txs, .stxAbsY 0x1234#16, .stzAbs 0x1234#16,
     .staAbsX 0x1234#16, .stzAbsX 0x1234#16, .bbs1 0x34#8 0x12#8].map
      (fun i : Instr => .ok (i, [])) := by rfl

theorem test_decode_row_Ax :
    [[0xA0#8, 0x34#8], [0xA1#8, 0x34#8], [0xA2#8, 0x34#8], [0xA3#8, 0x34#8], [0xA4#8, 0x34#8],
     [0xA5#8, 0x34#8], [0xA6#8, 0x34#8], [0xA7#8, 0x34#8], [0xA8#8], [0xA9#8, 0x34#8], [0xAA#8],
     [0xAB#8, 0x34#8, 0x12#8], [0xAC#8, 0x34#8, 0x12#8], [0xAD#8, 0x34#8, 0x12#8], [0xAE#8, 0x34#8, 0x12#8],
     [0xAF#8, 0x34#8, 0x12#8]].map decode
    = [.ldyImm 0x34#8, .ldaIndX 0x34#8, .ldxImm 0x34#8, .ldzImm 0x34#8, .ldyBp 0x34#8, .ldaBp 0x34#8,
     .ldxBp 0x34#8, .smb2 0x34#8, .tay, .ldaImm 0x34#8, .tax, .ldzAbs 0x1234#16, .ldyAbs 0x1234#16,
     .ldaAbs 0x1234#16, .ldxAbs 0x1234#16, .bbs2 0x34#8 0x12#8].map
      (fun i : Instr => .ok (i, [])) := by rfl

theorem test_decode_row_Bx :
    [[0xB0#8, 0x34#8], [0xB1#8, 0x34#8], [0xB2#8, 0x34#8], [0xB3#8, 0x34#8, 0x12#8], [0xB4#8, 0x34#8],
     [0xB5#8, 0x34#8], [0xB6#8, 0x34#8], [0xB7#8, 0x34#8], [0xB8#8], [0xB9#8, 0x34#8, 0x12#8], [0xBA#8],
     [0xBB#8, 0x34#8, 0x12#8], [0xBC#8, 0x34#8, 0x12#8], [0xBD#8, 0x34#8, 0x12#8], [0xBE#8, 0x34#8, 0x12#8],
     [0xBF#8, 0x34#8, 0x12#8]].map decode
    = [.bcsRel 0x34#8, .ldaIndY 0x34#8, .ldaIndZ 0x34#8, .bcsWord 0x1234#16, .ldyBpX 0x34#8, .ldaBpX 0x34#8,
     .ldxBpY 0x34#8, .smb3 0x34#8, .clv, .ldaAbsY 0x1234#16, .tsx, .ldzAbsX 0x1234#16, .ldyAbsX 0x1234#16,
     .ldaAbsX 0x1234#16, .ldxAbsY 0x1234#16, .bbs3 0x34#8 0x12#8].map
      (fun i : Instr => .ok (i, [])) := by rfl

theorem test_decode_row_Cx :
    [[0xC0#8, 0x34#8], [0xC1#8, 0x34#8], [0xC2#8, 0x34#8], [0xC3#8, 0x34#8], [0xC4#8, 0x34#8],
     [0xC5#8, 0x34#8], [0xC6#8, 0x34#8], [0xC7#8, 0x34#8], [0xC8#8], [0xC9#8, 0x34#8], [0xCA#8],
     [0xCB#8, 0x34#8, 0x12#8], [0xCC#8, 0x34#8, 0x12#8], [0xCD#8, 0x34#8, 0x12#8], [0xCE#8, 0x34#8, 0x12#8],
     [0xCF#8, 0x34#8, 0x12#8]].map decode
    = [.cpyImm 0x34#8, .cmpIndX 0x34#8, .cpzImm 0x34#8, .dew 0x34#8, .cpyBp 0x34#8, .cmpBp 0x34#8,
     .decBp 0x34#8, .smb4 0x34#8, .iny, .cmpImm 0x34#8, .dex, .asw 0x1234#16, .cpyAbs 0x1234#16,
     .cmpAbs 0x1234#16, .decAbs 0x1234#16, .bbs4 0x34#8 0x12#8].map
      (fun i : Instr => .ok (i, [])) := by rfl

theorem test_decode_row_Dx :
    [[0xD0#8, 0x34#8], [0xD1#8, 0x34#8], [0xD2#8, 0x34#8], [0xD3#8, 0x34#8, 0x12#8], [0xD4#8, 0x34#8],
     [0xD5#8, 0x34#8], [0xD6#8, 0x34#8], [0xD7#8, 0x34#8], [0xD8#8], [0xD9#8, 0x34#8, 0x12#8], [0xDA#8],
     [0xDB#8], [0xDC#8, 0x34#8, 0x12#8], [0xDD#8, 0x34#8, 0x12#8], [0xDE#8, 0x34#8, 0x12#8],
     [0xDF#8, 0x34#8, 0x12#8]].map decode
    = [.bneRel 0x34#8, .cmpIndY 0x34#8, .cmpIndZ 0x34#8, .bneWord 0x1234#16, .cpzBp 0x34#8, .cmpBpX 0x34#8,
     .decBpX 0x34#8, .smb5 0x34#8, .cld, .cmpAbsY 0x1234#16, .phx, .phz, .cpzAbs 0x1234#16,
     .cmpAbsX 0x1234#16, .decAbsX 0x1234#16, .bbs5 0x34#8 0x12#8].map
      (fun i : Instr => .ok (i, [])) := by rfl

theorem test_decode_row_Ex :
    [[0xE0#8, 0x34#8], [0xE1#8, 0x34#8], [0xE2#8, 0x34#8], [0xE3#8, 0x34#8], [0xE4#8, 0x34#8],
     [0xE5#8, 0x34#8], [0xE6#8, 0x34#8], [0xE7#8, 0x34#8], [0xE8#8], [0xE9#8, 0x34#8], [0xEA#8],
     [0xEB#8, 0x34#8, 0x12#8], [0xEC#8, 0x34#8, 0x12#8], [0xED#8, 0x34#8, 0x12#8], [0xEE#8, 0x34#8, 0x12#8],
     [0xEF#8, 0x34#8, 0x12#8]].map decode
    = [.cpxImm 0x34#8, .sbcIndX 0x34#8, .ldaSpY 0x34#8, .inw 0x34#8, .cpxBp 0x34#8, .sbcBp 0x34#8,
     .incBp 0x34#8, .smb6 0x34#8, .inx, .sbcImm 0x34#8, .nop, .row 0x1234#16, .cpxAbs 0x1234#16,
     .sbcAbs 0x1234#16, .incAbs 0x1234#16, .bbs6 0x34#8 0x12#8].map
      (fun i : Instr => .ok (i, [])) := by rfl

theorem test_decode_row_Fx :
    [[0xF0#8, 0x34#8], [0xF1#8, 0x34#8], [0xF2#8, 0x34#8], [0xF3#8, 0x34#8, 0x12#8],
     [0xF4#8, 0x34#8, 0x12#8], [0xF5#8, 0x34#8], [0xF6#8, 0x34#8], [0xF7#8, 0x34#8], [0xF8#8],
     [0xF9#8, 0x34#8, 0x12#8], [0xFA#8], [0xFB#8], [0xFC#8, 0x34#8, 0x12#8], [0xFD#8, 0x34#8, 0x12#8],
     [0xFE#8, 0x34#8, 0x12#8], [0xFF#8, 0x34#8, 0x12#8]].map decode
    = [.beqRel 0x34#8, .sbcIndY 0x34#8, .sbcIndZ 0x34#8, .beqWord 0x1234#16, .phwImm 0x1234#16, .sbcBpX 0x34#8,
     .incBpX 0x34#8, .smb7 0x34#8, .sed, .sbcAbsY 0x1234#16, .plx, .plz, .phwAbs 0x1234#16,
     .sbcAbsX 0x1234#16, .incAbsX 0x1234#16, .bbs7 0x34#8 0x12#8].map
      (fun i : Instr => .ok (i, [])) := by rfl

/-! One word of each family, bit by bit as its encoding in spec/opcode_table.json has it, and the rejections. -/

theorem test_decode_bits :
    [0b00001001#8, 0b10000000#8] = [0x09#8, 0x80#8] ∧
    (decode [0b00001001#8, 0b10000000#8] = .ok (.oraImm 0x80#8, [])) ∧
    (decode [0b11101011#8, 0b00000000#8, 0b00100000#8] = .ok (.row 0x2000#16, [])) ∧
    (decode [0b01110111#8, 0b00100000#8] = .ok (.rmb7 0x20#8, [])) ∧
    (decode [0b11011011#8] = .ok (.phz, [])) ∧
    (decode [0b01001011#8] = .ok (.taz, [])) ∧
    (decode [0b11100011#8, 0b11111111#8] = .ok (.inw 0xFF#8, [])) ∧
    (decode [0b01100011#8, 0b00000000#8, 0b00010000#8] = .ok (.bsr 0x1000#16, [])) ∧
    (decode [0b00000011#8] = .ok (.see, [])) ∧
    (decode [0b11100010#8, 0b00000011#8] = .ok (.ldaSpY 0x03#8, [])) ∧
    (decode [0b01000010#8, 0b00000001#8] = .ok (.neg, [0x01#8])) := by decide
theorem test_decode_nothing : decode [] = .error .noOpcode := by decide
theorem test_decode_truncated : decode [0xAD#8, 0x34#8] = .error (.truncated 0xAD#8) := by decide
theorem test_decode_table_word : decodeTableWord 24 0x1234AD = some (.ldaAbs 0x1234#16) := by decide

/-! One step. The state is that of 95_test_vectors: the bytes at PC, SP = 0xFF, the named cells and registers. -/

/-- A PSG configuration with numbers. -/
def psgConfig : PsgConfig := ⟨⟨44100, by decide⟩, 0, 0, Vector.ofFn fun i => i.val, ⟨1000, by decide⟩, Config.noiseTap, Config.seedInit⟩

/-- A machine with a port bound, the given bytes at 0x0200 and the given cells, about to run at 0x0200. -/
def machine (bytes : List Byte) (cells : List Host.Cell) : State :=
  State.storeBytes
    { (State.construct Config.defaultCpu psgConfig).bindMemory cells [] with sp := 0xFF#8, pc := 0x0200#16 } 0x0200#16
    bytes

/-- What a step's next state shows. -/
def after {α : Type} (view : State → α) (s : State) : Option α :=
  match Machine.step s with
  | .next t => some (view t)
  | _ => none

/-- V1, R450. -/
theorem test_ora_V1 : after (fun t => (t.p, t.pc))
    { machine [0x09#8, 0x00#8] [] with
      a := 0x00#8 }
    = some (0x02#8, 0x0202#16) := by decide
/-- V5, R451. -/
theorem test_and_V5 : after (fun t => (t.a, t.p))
    { machine [0x29#8, 0x0F#8] [] with
      a := 0xF0#8, p := 0x80#8 }
    = some (0x00#8, 0x02#8) := by decide
/-- V6, R452. -/
theorem test_eor_V6 : after (fun t => (t.a, t.p))
    { machine [0x49#8, 0xFF#8] [] with
      a := 0x0F#8 }
    = some (0xF0#8, 0x80#8) := by decide
/-- V7, R453. -/
theorem test_bit_V7 : after (fun t => (t.p, t.pc))
    { machine [0x24#8, 0x10#8] [(0x0010, 0xC0#8)] with
      a := 0x01#8 }
    = some (0xC2#8, 0x0202#16) := by decide
/-- V11, R455. -/
theorem test_tsb_V11 : after (fun t => (t.p, t.mem.read 0x0010))
    { machine [0x04#8, 0x10#8] [(0x0010, 0xF0#8)] with
      a := 0x0F#8 }
    = some (0x00#8, 0xFF#8) := by decide
/-- V13, R456. -/
theorem test_trb_V13 : after (fun t => (t.p, t.mem.read 0x0010))
    { machine [0x14#8, 0x10#8] [(0x0010, 0xFF#8)] with
      a := 0x0F#8 }
    = some (0x00#8, 0xF0#8) := by decide
/-- V15, R500. -/
theorem test_asl_V15 : after (fun t => (t.p, t.mem.read 0x0010))
    (machine [0x06#8, 0x10#8] [(0x0010, 0x80#8)])
    = some (0x03#8, 0x00#8) := by decide
/-- V18, R501. -/
theorem test_lsr_V18 : after (fun t => (t.a, t.p))
    { machine [0x4A#8] [] with
      a := 0x01#8, p := 0x80#8 }
    = some (0x00#8, 0x03#8) := by decide
/-- V19, R502. -/
theorem test_rol_V19 : after (fun t => (t.a, t.p))
    { machine [0x2A#8] [] with
      a := 0x80#8, p := 0x01#8 }
    = some (0x01#8, 0x01#8) := by decide
/-- V20, R503. -/
theorem test_ror_V20 : after (fun t => (t.a, t.p))
    { machine [0x6A#8] [] with
      a := 0x01#8 }
    = some (0x00#8, 0x03#8) := by decide
/-- V22, R504. -/
theorem test_asr_V22 : after (fun t => (t.a, t.p))
    { machine [0x43#8] [] with
      a := 0x81#8 }
    = some (0xC0#8, 0x81#8) := by decide
/-- V23, R505. -/
theorem test_asw_V23 : after (fun t => (t.p, t.mem.read 0x2000, t.mem.read 0x2001))
    (machine [0xCB#8, 0x00#8, 0x20#8] [(0x2000, 0x81#8), (0x2001, 0x40#8)])
    = some (0x80#8, 0x02#8, 0x81#8) := by decide
/-- V25, R506. -/
theorem test_row_V25 : after (fun t => (t.p, t.mem.read 0x2000, t.mem.read 0x2001))
    { machine [0xEB#8, 0x00#8, 0x20#8] [(0x2000, 0x01#8), (0x2001, 0x80#8)] with
      p := 0x01#8 }
    = some (0x01#8, 0x03#8, 0x00#8) := by decide
/-- V26, R554. -/
theorem test_rmb3_V26 : after (fun t => (t.p, t.mem.read 0x0020))
    (machine [0x37#8, 0x20#8] [(0x0020, 0xFF#8)])
    = some (0x00#8, 0xF7#8) := by decide
/-- V29, R568. -/
theorem test_smb7_V29 : after (fun t => (t.p, t.mem.read 0x0020))
    (machine [0xF7#8, 0x20#8] [(0x0020, 0x00#8)])
    = some (0x00#8, 0x80#8) := by decide
/-- V31, R600. -/
theorem test_pha_V31 : after (fun t => (t.sp, t.p, t.mem.read 0x01FF))
    { machine [0x48#8] [] with
      a := 0x42#8 }
    = some (0xFE#8, 0x00#8, 0x42#8) := by decide
/-- V32, R601. -/
theorem test_php_V32 : after (fun t => (t.sp, t.p, t.mem.read 0x01FF))
    { machine [0x08#8] [] with
      p := 0x83#8 }
    = some (0xFE#8, 0x83#8, 0x83#8) := by decide
/-- V33, R602. -/
theorem test_phx_V33 : after (fun t => (t.sp, t.p, t.mem.read 0x0180))
    { machine [0xDA#8] [] with
      x := 0x11#8, sp := 0x80#8 }
    = some (0x7F#8, 0x00#8, 0x11#8) := by decide
/-- V34, R604. -/
theorem test_phz_V34 : after (fun t => (t.sp, t.p, t.mem.read 0x0101))
    { machine [0xDB#8] [] with
      z := 0x78#8, sp := 0x01#8 }
    = some (0x00#8, 0x00#8, 0x78#8) := by decide
/-- V35, R605. -/
theorem test_phw_V35 : after (fun t => (t.sp, t.p, t.mem.read 0x01FE, t.mem.read 0x01FF))
    (machine [0xF4#8, 0x34#8, 0x12#8] [])
    = some (0xFD#8, 0x00#8, 0x34#8, 0x12#8) := by decide
/-- V37, R607. -/
theorem test_pla_V37 : after (fun t => (t.a, t.sp, t.p))
    { machine [0x68#8] [(0x01FF, 0x00#8)] with
      sp := 0xFE#8, a := 0x55#8 }
    = some (0x00#8, 0xFF#8, 0x02#8) := by decide
/-- V38, R608. -/
theorem test_plp_V38 : after (fun t => (t.sp, t.p))
    { machine [0x28#8] [(0x01FF, 0xFF#8)] with
      sp := 0xFE#8 }
    = some (0xFF#8, 0xFF#8) := by decide
/-- V39, R611. -/
theorem test_plz_V39 : after (fun t => (t.z, t.sp, t.p))
    { machine [0xFB#8] [(0x01FF, 0x90#8)] with
      sp := 0xFE#8 }
    = some (0x90#8, 0xFF#8, 0x80#8) := by decide
/-- V40, R600. -/
theorem test_pha_V40 : after (fun t => (t.p, t.mem.read 0x0100, t.lastResult))
    { machine [0x48#8] [] with
      a := 0x42#8, sp := 0x00#8 }
    = some (0x00#8, 0x42#8, .stackFault .overflow) := by decide
/-- V42, R607. -/
theorem test_pla_V42 : after (fun t => (t.p, t.lastResult))
    { machine [0x68#8] [] with
      a := 0x42#8 }
    = some (0x00#8, .stackFault .underflow) := by decide
/-- V44, R650. -/
theorem test_tsy_V44 : after (fun t => (t.y, t.p))
    { machine [0x0B#8] [] with
      sp := 0xFD#8 }
    = some (0xFD#8, 0x80#8) := by decide
/-- V45, R651. -/
theorem test_tys_V45 : after (fun t => (t.sp, t.p))
    { machine [0x2B#8] [] with
      y := 0x80#8, p := 0x02#8 }
    = some (0x80#8, 0x02#8) := by decide
/-- V46, R652. -/
theorem test_tsx_V46 : after (fun t => (t.p, t.pc))
    { machine [0xBA#8] [] with
      sp := 0x00#8 }
    = some (0x02#8, 0x0201#16) := by decide
/-- V47, R653. -/
theorem test_txs_V47 : after (fun t => (t.sp, t.p))
    { machine [0x9A#8] [] with
      x := 0x00#8, p := 0x80#8 }
    = some (0x00#8, 0x80#8) := by decide
/-- V48, R654. -/
theorem test_tax_V48 : after (fun t => (t.x, t.p))
    { machine [0xAA#8] [] with
      a := 0x80#8 }
    = some (0x80#8, 0x80#8) := by decide
/-- V49, R656. -/
theorem test_taz_V49 : after (fun t => (t.z, t.p))
    { machine [0x4B#8] [] with
      a := 0x00#8, z := 0x12#8 }
    = some (0x00#8, 0x02#8) := by decide
/-- V50, R659. -/
theorem test_tza_V50 : after (fun t => (t.a, t.p))
    { machine [0x6B#8] [] with
      z := 0x7F#8, a := 0xFF#8, p := 0x80#8 }
    = some (0x7F#8, 0x00#8) := by decide
/-- V51, R660. -/
theorem test_tab_V51 : after (fun t => (t.p, t.diag))
    { machine [0x5B#8] [] with
      a := 0x12#8 }
    = some (0x00#8, [⟨.unimplemented, 0x5B#8, 0x0200#16⟩]) := by decide
/-- V52, R700. -/
theorem test_inc_V52 : after (fun t => (t.a, t.p))
    { machine [0x1A#8] [] with
      a := 0xFF#8 }
    = some (0x00#8, 0x02#8) := by decide
/-- V54, R701. -/
theorem test_inx_V54 : after (fun t => (t.x, t.p))
    { machine [0xE8#8] [] with
      x := 0x7F#8 }
    = some (0x80#8, 0x80#8) := by decide
/-- V55, R703. -/
theorem test_inz_V55 : after (fun t => (t.z, t.p))
    { machine [0x1B#8] [] with
      z := 0xFF#8 }
    = some (0x00#8, 0x02#8) := by decide
/-- V56, R704. -/
theorem test_dec_V56 : after (fun t => (t.p, t.mem.read 0x0010))
    (machine [0xC6#8, 0x10#8] [(0x0010, 0x00#8)])
    = some (0x80#8, 0xFF#8) := by decide
/-- V57, R706. -/
theorem test_dey_V57 : after (fun t => (t.y, t.p))
    { machine [0x88#8] [] with
      y := 0x00#8 }
    = some (0xFF#8, 0x80#8) := by decide
/-- V58, R707. -/
theorem test_dez_V58 : after (fun t => (t.z, t.p))
    { machine [0x3B#8] [] with
      z := 0x01#8 }
    = some (0x00#8, 0x02#8) := by decide
/-- V59, R708. -/
theorem test_inw_V59 : after (fun t => (t.p, t.mem.read 0x0010, t.mem.read 0x0011))
    (machine [0xE3#8, 0x10#8] [(0x0010, 0xFF#8), (0x0011, 0x12#8)])
    = some (0x00#8, 0x00#8, 0x13#8) := by decide
/-- V62, R709. -/
theorem test_dew_V62 : after (fun t => (t.p, t.mem.read 0x0020, t.mem.read 0x0021))
    (machine [0xC3#8, 0x20#8] [(0x0020, 0x00#8), (0x0021, 0x01#8)])
    = some (0x00#8, 0xFF#8, 0x00#8) := by decide
/-- V65, R758. -/
theorem test_beq_V65 : after (fun t => (t.p, t.pc))
    (machine [0xF0#8, 0x10#8] [])
    = some (0x00#8, 0x0202#16) := by decide
/-- V67, R751. -/
theorem test_bpl_V67 : after (fun t => (t.p, t.pc))
    (machine [0x10#8, 0x80#8] [])
    = some (0x00#8, 0x0182#16) := by decide
/-- V68, R756. -/
theorem test_bcs_V68 : after (fun t => (t.p, t.pc))
    { machine [0xB3#8, 0x00#8, 0x10#8] [] with
      p := 0x01#8 }
    = some (0x01#8, 0x1203#16) := by decide
/-- V69, R755. -/
theorem test_bcc_V69 : after (fun t => (t.p, t.pc))
    (machine [0x93#8, 0xFD#8, 0xFF#8] [])
    = some (0x00#8, 0x0200#16) := by decide
/-- V70, R759. -/
theorem test_bru_V70 : after (fun t => (t.p, t.pc))
    (machine [0x80#8, 0xFE#8] [])
    = some (0x00#8, 0x0200#16) := by decide
/-- V71, R753. -/
theorem test_bvc_V71 : after (fun t => (t.p, t.pc))
    { machine [0x50#8, 0x04#8] [] with
      p := 0x40#8 }
    = some (0x40#8, 0x0202#16) := by decide
/-- V72, R761. -/
theorem test_bbr0_V72 : after (fun t => (t.p, t.pc))
    (machine [0x0F#8, 0x10#8, 0x05#8] [(0x0010, 0xFE#8)])
    = some (0x00#8, 0x0208#16) := by decide
/-- V74, R778. -/
theorem test_bbs7_V74 : after (fun t => (t.p, t.pc))
    (machine [0xFF#8, 0x10#8, 0xFD#8] [(0x0010, 0x80#8)])
    = some (0x00#8, 0x0200#16) := by decide
/-- V75, R780. -/
theorem test_jmp_V75 : after (fun t => (t.p, t.pc))
    (machine [0x4C#8, 0x34#8, 0x12#8] [])
    = some (0x00#8, 0x1234#16) := by decide
/-- V78, R781. -/
theorem test_jsr_V78 : after (fun t => (t.sp, t.p, t.mem.read 0x01FE, t.mem.read 0x01FF))
    (machine [0x20#8, 0x00#8, 0x20#8] [])
    = some (0xFD#8, 0x00#8, 0x02#8, 0x02#8) := by decide
/-- V81, R782. -/
theorem test_bsr_V81 : after (fun t => (t.sp, t.p, t.mem.read 0x01FE, t.mem.read 0x01FF))
    (machine [0x63#8, 0x10#8, 0x00#8] [])
    = some (0xFD#8, 0x00#8, 0x02#8, 0x02#8) := by decide
/-- V82, R783. -/
theorem test_rts_V82 : after (fun t => (t.sp, t.p))
    { machine [0x60#8] [(0x01FE, 0x02#8), (0x01FF, 0x04#8)] with
      sp := 0xFD#8 }
    = some (0xFF#8, 0x00#8) := by decide
/-- V84, R784. -/
theorem test_rtn_V84 : after (fun t => (t.sp, t.p))
    { machine [0x62#8, 0x02#8] [(0x01FC, 0x02#8), (0x01FD, 0x04#8)] with
      sp := 0xFB#8 }
    = some (0xFF#8, 0x00#8) := by decide
/-- V86, R785. -/
theorem test_rti_V86 : after (fun t => (t.sp, t.p))
    { machine [0x40#8] [(0x01FD, 0x01#8), (0x01FE, 0x00#8), (0x01FF, 0x80#8)] with
      sp := 0xFC#8 }
    = some (0xFF#8, 0x01#8) := by decide
/-- V87, R801. -/
theorem test_sec_V87 : after (fun t => (t.p, t.pc))
    (machine [0x38#8] [])
    = some (0x01#8, 0x0201#16) := by decide
/-- V88, R800. -/
theorem test_clc_V88 : after (fun t => (t.p, t.pc))
    { machine [0x18#8] [] with
      p := 0xFF#8 }
    = some (0xFE#8, 0x0201#16) := by decide
/-- V89, R803. -/
theorem test_sei_V89 : after (fun t => (t.p, t.pc))
    (machine [0x78#8] [])
    = some (0x04#8, 0x0201#16) := by decide
/-- V90, R805. -/
theorem test_sed_V90 : after (fun t => (t.p, t.pc))
    (machine [0xF8#8] [])
    = some (0x08#8, 0x0201#16) := by decide
/-- V91, R806. -/
theorem test_clv_V91 : after (fun t => (t.p, t.pc))
    { machine [0xB8#8] [] with
      p := 0x41#8 }
    = some (0x01#8, 0x0201#16) := by decide
/-- V92, R808. -/
theorem test_see_V92 : after (fun t => (t.p, t.pc))
    (machine [0x03#8] [])
    = some (0x20#8, 0x0201#16) := by decide
/-- V93, R807. -/
theorem test_cle_V93 : after (fun t => (t.p, t.pc))
    { machine [0x02#8] [] with
      p := 0xA0#8 }
    = some (0x80#8, 0x0201#16) := by decide
/-- V94, R810. -/
theorem test_brk_V94 : after (fun t => (t.p, t.diag))
    (machine [0x00#8, 0x77#8] [])
    = some (0x10#8, [⟨.break_, 0x00#8, 0x0200#16⟩]) := by decide
/-- V95, R811. -/
theorem test_nop_V95 : after (fun t => (t.p, t.pc))
    { machine [0xEA#8] [] with
      p := 0x5A#8 }
    = some (0x5A#8, 0x0201#16) := by decide
/-- V96, R812. -/
theorem test_aug_V96 : after (fun t => (t.p, t.pc))
    (machine [0x5C#8, 0x11#8, 0x22#8, 0x33#8] [])
    = some (0x00#8, 0x0204#16) := by decide
/-- V97, R850. -/
theorem test_lda_V97 : after (fun t => (t.a, t.p))
    (machine [0xA9#8, 0x80#8] [])
    = some (0x80#8, 0x80#8) := by decide
/-- V101, R851. -/
theorem test_ldx_V101 : after (fun t => (t.p, t.pc))
    { machine [0xB6#8, 0xFF#8] [(0x0100, 0x00#8), (0x0000, 0x22#8)] with
      y := 0x01#8 }
    = some (0x02#8, 0x0202#16) := by decide
/-- V102, R853. -/
theorem test_ldz_V102 : after (fun t => (t.z, t.p))
    { machine [0xA3#8, 0x00#8] [] with
      z := 0x05#8 }
    = some (0x00#8, 0x02#8) := by decide
/-- V103, R854. -/
theorem test_sta_V103 : after (fun t => (t.p, t.mem.read 0x0010))
    { machine [0x91#8, 0x10#8] [(0x0010, 0xF0#8), (0x0011, 0xFF#8)] with
      a := 0x42#8, y := 0x20#8 }
    = some (0x00#8, 0x42#8) := by decide
/-- V104, R857. -/
theorem test_stz_V104 : after (fun t => (t.p, t.mem.read 0x0010))
    { machine [0x64#8, 0x10#8] [] with
      z := 0x33#8 }
    = some (0x00#8, 0x33#8) := by decide
/-- V105, R860. -/
theorem test_adc_V105 : after (fun t => (t.a, t.p))
    { machine [0x69#8, 0x01#8] [] with
      a := 0xFF#8 }
    = some (0x00#8, 0x03#8) := by decide
/-- V110, R861. -/
theorem test_sbc_V110 : after (fun t => (t.a, t.p))
    { machine [0xE9#8, 0x01#8] [] with
      a := 0x00#8, p := 0x01#8 }
    = some (0xFF#8, 0x80#8) := by decide
/-- V127, R865. -/
theorem test_cmp_V127 : after (fun t => (t.p, t.pc))
    { machine [0xC9#8, 0x30#8] [] with
      a := 0x40#8 }
    = some (0x01#8, 0x0202#16) := by decide
/-- V131, R866. -/
theorem test_cpx_V131 : after (fun t => (t.p, t.pc))
    { machine [0xE0#8, 0x05#8] [] with
      x := 0x05#8 }
    = some (0x03#8, 0x0202#16) := by decide
/-- V132, R867. -/
theorem test_cpy_V132 : after (fun t => (t.p, t.pc))
    { machine [0xC0#8, 0x02#8] [] with
      y := 0x01#8 }
    = some (0x80#8, 0x0202#16) := by decide
/-- V133, R868. -/
theorem test_cpz_V133 : after (fun t => (t.p, t.pc))
    { machine [0xC2#8, 0x00#8] [] with
      z := 0xFF#8 }
    = some (0x81#8, 0x0202#16) := by decide
/-- V134, R869. -/
theorem test_neg_V134 : after (fun t => (t.a, t.p))
    { machine [0x42#8] [] with
      a := 0x05#8 }
    = some (0xFB#8, 0x80#8) := by decide

/-! Wrapping, the minimal variant, faults inside an instruction, preconditions (3.11, 3.12 of 95_test_vectors). -/

/-- V165, R405. -/
theorem test_pc_wraps_V165 : after State.pc { machine [] [(0xFFFF, 0xEA#8)] with pc := 0xFFFF#16 } = some 0x0000#16 := by
  decide
/-- V166, R411. -/
theorem test_operand_wraps_V166 : after (fun t => (t.a, t.pc))
    { machine [] [(0x0000, 0x05#8), (0xFFFF, 0xA9#8)] with pc := 0xFFFF#16 } = some (0x05#8, 0x0001#16) := by decide
/-- The minimal variant of this hardware (R3). -/
def minimalCpu : CpuConfig := { Config.defaultCpu with extended := false }
/-- V168, R404. -/
theorem test_unimplemented_V168 : after (fun t => (t.sp, t.diag))
    { machine [0x63#8, 0x10#8, 0x00#8] [] with cfg := minimalCpu }
    = some (0xFF#8, [⟨.unimplemented, 0x63#8, 0x0200#16⟩]) := by decide
/-- V171, R404: the skipped bytes are not read. -/
theorem test_unimplemented_wraps_V171 : after (fun t => (t.pc, t.portOps))
    { machine [] [(0xFFFE, 0x63#8)] with cfg := minimalCpu, pc := 0xFFFE#16 }
    = some (0x0001#16, [.read 0xFFFE#16 0x63#8]) := by decide
/-- V173, R432. -/
theorem test_phw_overflow_V173 : after (fun t => (t.sp, t.mem.read 0x0101, t.mem.read 0x0100, t.lastResult))
    { machine [0xF4#8, 0x34#8, 0x12#8] [] with sp := 0x01#8 }
    = some (0x00#8, 0x12#8, 0x34#8, .stackFault .overflow) := by decide
/-- V174, R432: no jump. -/
theorem test_jsr_overflow_V174 : after (fun t => (t.pc, t.faulted))
    { machine [0x20#8, 0x00#8, 0x20#8] [] with sp := 0x01#8 } = some (0x0203#16, true) := by decide
/-- V176, R432: the pulls done keep their effect. -/
theorem test_rti_underflow_V176 : after (fun t => (t.p, t.sp, t.pc, t.lastResult))
    { machine [0x40#8] [(0x01FE, 0xC3#8), (0x01FF, 0x05#8)] with sp := 0xFD#8 }
    = some (0xC3#8, 0xFF#8, 0x0201#16, .stackFault .underflow) := by decide
/-- V178, R403. -/
theorem test_no_memory_V178 : Machine.step State.reset = .fault .configFaultNoMemory := by rfl
/-- V179, R1008: the binding is checked first. -/
theorem test_no_memory_first_V179 : Machine.step { State.reset with faulted := true } = .fault .configFaultNoMemory := by
  rfl
/-- V180, R403. -/
theorem test_halted_V180 : Machine.step { machine [0xEA#8] [] with faulted := true } = .fault .stackFaultHalted := by rfl
/-- The operand reads come in address order, before the data read (R407, R425). -/
theorem test_port_order : after State.portOps (machine [0xAD#8, 0x00#8, 0x20#8] [(0x2000, 0x07#8)])
    = some [.read 0x0200#16 0xAD#8, .read 0x0201#16 0x00#8, .read 0x0202#16 0x20#8, .read 0x2000#16 0x07#8] := by decide
/-- A word placed where the step fetches is the instruction that runs (R313). -/
theorem test_fetch_word : after State.a (State.reset.withFetchWord 16 0x80A9) = some 0x80#8 := by decide

/-! The PSG block (4 of 95_test_vectors). -/

/-- A PSG block with the numbers of 95_test_vectors, after `calls`. -/
def psgAfter (calls : List HostCall) : Psg := (hostCalls (State.construct Config.defaultCpu psgConfig) calls).psg
/-- PV2, PV9, R904, R905. -/
theorem test_psg_derive_PV9 :
    (psgAfter [.psgSetClock 1411200, .psgWriteRegister 0 0x34, .psgWriteRegister 1 0x12]).baseStep = 4 ∧
    (psgAfter [.psgSetClock 1411200, .psgWriteRegister 0 0x34, .psgWriteRegister 1 0x12]).toneStep = ⟨4660, 0, 0⟩ := by
  decide
/-- PV14, R904. -/
theorem test_psg_gates_PV14 : (psgAfter [.psgWriteRegister 7 0x3E]).toneGate = ⟨true, false, false⟩ ∧
    (psgAfter [.psgWriteRegister 7 0x3E]).noiseGate = ⟨false, false, false⟩ := by decide
/-- PV17, R126. -/
theorem test_psg_volume_PV17 : (psgAfter [.psgWriteRegister 8 0xE5]).volume.a = 10 ∧
    (psgAfter [.psgWriteRegister 8 0xE5]).envEnable.a = false := by decide
/-- PV20, R911. -/
theorem test_lfsr_PV20 : [0x8000#16, 0x0008#16, 0x8004#16, 0x2001#16].map (lfsrNext Config.noiseTap)
    = [0x4000#16, 0x8004#16, 0x4002#16, 0x9000#16] := by decide
/-- R11: the tap is a parameter; tap 1 makes bit 15 of bits 0 and 1, tap 15 of bits 0 and 15. -/
theorem test_lfsr_tap_bounds : lfsrNext ⟨1, by decide⟩ 0x0003#16 = 0x0001#16 ∧
    lfsrNext ⟨15, by decide⟩ 0x8001#16 = 0x4000#16 := by decide
/-- R11, R901: the seed starts at the instance's SEED_INIT. -/
theorem test_psg_seed_init : (Psg.construct { psgConfig with seedInit := ⟨0xACE1#16, by decide⟩ }).seed = 0xACE1#16 := by
  decide
/-- PV23, R908: an odd count leaves the last slot. -/
theorem test_psg_pair_PV23 : (psgAfter [.psgSetBufferLength 3, .psgSetClock 1411200, .psgWriteRegister 7 0x3E,
    .psgWriteRegister 8 0x0F, .psgGenerate 3]).buffer = [0x001E#16, 0x001E#16, 0x0000#16] := by decide
/-- PV28, R909. -/
theorem test_psg_noise_PV28 : (psgAfter [.psgSetClock 1411200, .psgWriteRegister 6 0, .psgSetClock 2822400,
    .psgSetBufferLength 6, .psgGenerate 6]).seed = 0x2000#16 := by decide
/-- PV24, R918. -/
theorem test_psg_rejects_PV24 : (hostCall (.psgGenerate 4)
    { State.reset with psg := psgAfter [.psgSetBufferLength 3] }).1 = .invalidArgument .bufferTooSmall := by rfl

/-- The corner of entry 21: a counter past its step when the base step becomes 0. -/
theorem test_psg_zero_base_step : (psgAfter [.psgSetClock 1411200, .psgSetBufferLength 2, .psgGenerate 2,
    .psgSetClock 1, .psgGenerate 2]).active.a = false := by decide

/-! For each statement with hypotheses, states and operands that meet all of them, clause by clause. -/

theorem witness_decodedBytes :
    decode [0xA9#8, 0x05#8, 0x07#8] = .ok (.ldaImm 0x05#8, [0x07#8]) ∧ Instr.ldaImm 0x05#8 ≠ .brk ∧
    Instr.ldaImm 0x05#8 ≠ .aug := by decide

theorem witness_minimalVariant_config : minimalCpu.extended = false ∧
    ({ minimalCpu with unimplemented := [] } : CpuConfig).unimplemented = [] := by decide
theorem witness_minimalVariant_base : let s := machine [0xFE#8] []
    s.bound = true ∧ s.faulted = false ∧ s.cfg.extended = true ∧ s.cfg.implements (s.portByte s.pc) = true ∧
    s.portByte s.pc ∈ minimalOpcodes := by decide
theorem witness_minimalVariant_other : let s := machine [0xFF#8] []
    s.bound = true ∧ s.faulted = false ∧ s.cfg.extended = true ∧ s.cfg.implements (s.portByte s.pc) = true ∧
    s.portByte s.pc ∉ minimalOpcodes := by decide

theorem witness_stepRuns : let s := machine [0xAD#8, 0x34#8, 0x12#8] []
    s.bound = true ∧ s.faulted = false ∧ (Instr.ldaAbs 0x1234#16).wellFormed s.cfg = true ∧
    decode [0xAD#8, 0x34#8, 0x12#8] = .ok (.ldaAbs 0x1234#16, []) ∧
    ∀ k, k < bytesRead (.ldaAbs 0x1234#16) → [0xAD#8, 0x34#8, 0x12#8][k]? = some (s.beginStep.fetched k) := by decide
/-- The byte BRK skips may be any. -/
theorem witness_stepRuns_brk : let s := machine [0x00#8, 0x07#8] []
    s.bound = true ∧ s.faulted = false ∧ Instr.brk.wellFormed s.cfg = true ∧
    decode [0x00#8, 0x99#8] = .ok (.brk, []) ∧
    ∀ k, k < bytesRead .brk → [0x00#8, 0x99#8][k]? = some (s.beginStep.fetched k) := by decide

theorem witness_stepPreconditions_unbound : State.reset.bound = false := by rfl
theorem witness_stepPreconditions_halted :
    ({ machine [] [] with faulted := true } : State).bound = true ∧
    ({ machine [] [] with faulted := true } : State).faulted = true := by decide
theorem witness_unimplementedOpcode : let s := machine [0x5B#8] []
    s.bound = true ∧ s.faulted = false ∧ s.cfg.implements (s.portByte s.pc) = false := by decide
theorem witness_everyStepCompletes : (machine [0x48#8] []).bound = true ∧ (machine [0x48#8] []).faulted = false := by
  decide
theorem witness_stepLeavesTheRest : ∃ t, Machine.step (machine [0x00#8, 0x00#8] []) = .next t := ⟨_, rfl⟩

/-- An opcode that transfers nothing. -/
theorem witness_stepAdvances : ∃ t, Machine.step (machine [0xFE#8, 0x00#8, 0x20#8] []) = .next t ∧ t.lastResult = .ok ∧
    (machine [0xFE#8, 0x00#8, 0x20#8] []).portByte 0x0200#16 ∉ transferOpcodes := ⟨_, rfl, rfl, by decide⟩
/-- An unimplemented opcode that would transfer. -/
theorem witness_stepAdvances_unimplemented :
    ∃ t, Machine.step { machine [0x63#8, 0x00#8, 0x20#8] [] with cfg := minimalCpu } = .next t ∧ t.lastResult = .ok ∧
    minimalCpu.implements 0x63#8 = false := ⟨_, rfl, rfl, by decide⟩
theorem witness_writers : ∃ t, Machine.step (machine [0xA9#8, 0x00#8] []) = .next t ∧
    0xA9#8 ∉ Flag.writers Config.defaultCpu .c ∧ 0xA9#8 ∉ stackPointerWriters := ⟨_, rfl, by decide, by decide⟩

/-- The invariant of the CPU block in a state with a port bound and a program. -/
theorem witness_cpuInv : CpuInv (machine [0xA9#8, 0x05#8] [(0x1234, 0x07#8)]) :=
  ⟨by decide, fun e h => (by cases h), fun e h => (by cases h), fun h => (by cases h), fun h => absurd rfl h⟩
/-- The invariant of a PSG block whose mixer register is 0x3F. -/
theorem witness_psgInv : PsgInv (psgAfter [.psgWriteRegister 7 0x3F, .psgSetBufferLength 4]) where
  seed := by decide
  buffer := by decide
  clock := by decide
  toneStep := by decide
  noiseStep := by decide
  gates := by decide
  volume := by decide
  envEnable := by decide
  counters := ⟨by decide, fun ch => by cases ch <;> decide⟩
/-- A state that meets both invariants. -/
def goodState : State := { machine [0xA9#8, 0x05#8] [(0x1234, 0x07#8)] with
  psg := psgAfter [.psgWriteRegister 7 0x3F, .psgSetBufferLength 4] }
theorem witness_inv : Inv goodState :=
  And.intro ⟨by decide, fun e h => (by cases h), fun e h => (by cases h), fun h => (by cases h), fun h => absurd rfl h⟩
    witness_psgInv
theorem witness_stepKeepsInvariant : ∃ t, Machine.step goodState = .next t := ⟨_, rfl⟩

theorem witness_hostWrites : (machine [] []).bound = true := by decide
theorem witness_psgCalls : (machine [0xA9#8] []).psg = (machine [] []).psg := by rfl
theorem witness_portReads : (machine [] []).isIo 0xFFFF#16 = false ∧ (machine [] []).isIo (0xFFFF#16 + 1#16) = false := by
  decide

theorem witness_bitImmediate_keeps : (machine [] []).cfg.bitImmNV = false := by rfl
theorem witness_bitImmediate_writes :
    ({ machine [] [] with cfg := { Config.defaultCpu with bitImmNV := true } } : State).cfg.bitImmNV = true := by rfl

theorem witness_push : ({ machine [] [] with sp := 0x01#8 } : State).canPush 1 := fun _ => by decide
theorem witness_push_wrap : ({ machine [] [] with
    sp := 0x00#8, cfg := { Config.defaultCpu with stackLimit := .wrap } } : State).canPush 1 := fun h => by cases h
theorem witness_push_overflow : ¬({ machine [] [] with sp := 0x00#8 } : State).canPush 1 :=
  fun h => absurd (h rfl) (by decide)
theorem witness_pushWord : ({ machine [] [] with sp := 0x02#8 } : State).canPush 2 := fun _ => by decide
theorem witness_pushWord_overflow_one : ¬({ machine [] [] with sp := 0x01#8 } : State).canPush 2 :=
  fun h => absurd (h rfl) (by decide)
theorem witness_pushWord_overflow_none : ¬({ machine [] [] with sp := 0x00#8 } : State).canPush 2 :=
  fun h => absurd (h rfl) (by decide)
theorem witness_pull : ({ machine [] [] with sp := 0xFE#8 } : State).canPull 1 := fun _ => by decide
theorem witness_pull_underflow : ¬({ machine [] [] with sp := 0xFF#8 } : State).canPull 1 :=
  fun h => absurd (h rfl) (by decide)
theorem witness_pullWord : ({ machine [] [] with sp := 0xFD#8 } : State).canPull 2 := fun _ => by decide
theorem witness_pullWord_underflow_one : ¬({ machine [] [] with sp := 0xFE#8 } : State).canPull 2 :=
  fun h => absurd (h rfl) (by decide)
theorem witness_pullWord_underflow_none : ¬({ machine [] [] with sp := 0xFF#8 } : State).canPull 2 :=
  fun h => absurd (h rfl) (by decide)
theorem witness_release : ({ machine [] [] with sp := 0xFB#8 } : State).canPull (2 + (0x02#8 : Byte).toNat) :=
  fun _ => by decide
theorem witness_release_underflow : ({ machine [] [] with sp := 0xFC#8 } : State).canPull 2 ∧
    ¬({ machine [] [] with sp := 0xFC#8 } : State).canPull (2 + (0x02#8 : Byte).toNat) :=
  ⟨fun _ => by decide, fun h => absurd (h rfl) (by decide)⟩
theorem witness_returnFromInterrupt : ({ machine [] [] with sp := 0xFC#8 } : State).canPull 3 := fun _ => by decide
theorem witness_returnFromInterrupt_underflow : ¬({ machine [] [] with sp := 0xFD#8 } : State).canPull 3 :=
  fun h => absurd (h rfl) (by decide)
theorem witness_callThenReturn : ({ machine [] [] with sp := 0x02#8 } : State).canPush 2 ∧
    ({ machine [] [] with sp := 0x02#8 } : State).stackIsRam := ⟨fun _ => by decide, fun _ => rfl⟩

theorem witness_basePage_outside : (machine [] []).cfg.implements Instr.tab.opcode = false ∧
    (machine [] []).cfg.implements Instr.tba.opcode = false := by decide
theorem witness_basePage_inside : ({ Config.defaultCpu with unimplemented := [] } : CpuConfig).implements 0x5B#8 = true ∧
    ({ Config.defaultCpu with unimplemented := [] } : CpuConfig).implements 0x7B#8 = true := by decide
/-- The byte at 0x0000 of an empty memory is 0x00: its bits are clear. -/
theorem witness_bitBranch : ((machine [] []).portByte 0x0000#16).getLsbD 0 = false ∧
    ((machine [] [(0x0000, 0xFF#8)]).portByte 0x0000#16).getLsbD 7 ≠ false := by decide
theorem witness_arithmetic_binary : (machine [] []).flag .d = false := by decide
theorem witness_arithmetic_decimal : ({ machine [] [] with p := 0x08#8 } : State).flag .d = true ∧
    ({ machine [] [] with p := 0x08#8 } : State).cfg.decimalModel = .c02 := by decide
theorem witness_decimal :
    let s : State := { machine [0x99#8] [] with p := 0x08#8, a := 0x99#8 }
    s.flag .d = true ∧ s.cfg.decimalModel = .c02 ∧ s.a = bcd 99 ∧ (s.load (.imm 0x99#8)).1 = bcd 99 := by decide

theorem witness_registerWrite : (0 < 16 ∧ 0 < 256) ∧ 15 < 16 ∧ 255 < 256 := by decide
theorem witness_rejected_address : ((-1 : Int) < 0 ∨ 16 ≤ (-1 : Int)) ∧ ((16 : Int) < 0 ∨ 16 ≤ (16 : Int)) := by decide
theorem witness_rejected_value : 0 ≤ (15 : Int) ∧ (15 : Int) < 16 ∧ ((256 : Int) < 0 ∨ 256 ≤ (256 : Int)) ∧
    ((-1 : Int) < 0 ∨ 256 ≤ (-1 : Int)) := by decide
theorem witness_rejected_clock_and_length : (0 : Int) ≤ 0 ∧ (-1 : Int) < 0 := by decide
theorem witness_rejected_buffer : (0 : Int) ≤ 4 ∧
    ((psgAfter [.psgSetBufferLength 3]).bufferLength : Int) < 2 * (4 / 2) := by decide
theorem witness_clock : 0 < 1 := by decide
theorem witness_generatePair : 2 ≤ (psgAfter [.psgSetBufferLength 2]).bufferLength ∧
    (psgAfter [.psgSetBufferLength 2]).buffer.length = (psgAfter [.psgSetBufferLength 2]).bufferLength := by decide
theorem witness_generateInOrder : 2 * (1 + 2) ≤ (psgAfter [.psgSetBufferLength 6]).bufferLength ∧
    (psgAfter [.psgSetBufferLength 6]).buffer.length = (psgAfter [.psgSetBufferLength 6]).bufferLength ∧
    ((psgAfter [.psgSetBufferLength 6]).generatePairs 0 3).sampleDraws
      = (psgAfter [.psgSetBufferLength 6]).sampleDraws := by decide
theorem witness_silent : let p := psgAfter [.psgWriteRegister 7 0x3F, .psgSetBufferLength 4]
    PsgInv p ∧ (∀ i < 6, p.regs[7].getLsbD i = true) ∧ 2 * (5 / 2) ≤ p.bufferLength :=
  ⟨witness_psgInv, by decide, by decide⟩
theorem witness_toneRate : let p := psgAfter [.psgSetClock 1411200, .psgWriteRegister 0 10]
    0 < p.baseStep ∧ p.baseStep ≤ p.toneStep.get .a ∧ 0 ≤ p.toneCount.get .a ∧
    p.toneCount.get .a ≤ p.toneStep.get .a ∧ p.toneCount.get .a = 0 := by decide

end Sys2Proof.Tests
end

section
/-! PROOFS. The PSG calls and the LFSR step (00_scope.md). -/

namespace Sys2Proof.Machine

/-- A call whose reply and effect are given by the PSG block it meets, and whose effect is on that block alone. -/
def HostCall.ActsOnPsgAlone (call : HostCall) : Prop :=
  ∀ p : Psg, ∃ (reply : HostReply) (q : Psg), ∀ s : State, s.psg = p → hostCall call s = (reply, { s with psg := q })

/-- An operation that replaces the block, or is rejected and leaves it as it was (R918, R1004). -/
theorem HostCall.ActsOnPsgAlone.of_psgCall {call : HostCall} (op : Psg → Except InvalidArgument Psg)
    (hcall : ∀ s, hostCall call s = s.psgCall (op s.psg)) : call.ActsOnPsgAlone := by
  intro p
  cases hop : op p with
  | ok q =>
    refine ⟨.ok, q, fun s hs => ?_⟩
    rw [hcall, hs, hop, State.psgCall]
  | error k =>
    refine ⟨.invalidArgument k, p, fun s hs => ?_⟩
    subst hs
    rw [hcall, hop, State.psgCall]

/-- An operation that only answers from the block (R903, R907). -/
theorem HostCall.ActsOnPsgAlone.of_answer {call : HostCall} (answer : Psg → HostReply)
    (hcall : ∀ s, hostCall call s = (answer s.psg, s)) : call.ActsOnPsgAlone := by
  intro p
  refine ⟨answer p, p, fun s hs => ?_⟩
  subst hs
  exact hcall s

/-- What `readRegister` returns to the host: the byte, or the rejection (R903). -/
def Psg.readReply (p : Psg) (address : Int) : HostReply :=
  match p.readRegister address with
  | .ok v => .byte v
  | .error k => .invalidArgument k

/-- A register read answers and keeps the state (R903). -/
theorem hostCall_psgReadRegister (address : Int) (s : State) :
    hostCall (.psgReadRegister address) s = (s.psg.readReply address, s) := by
  cases h : s.psg.readRegister address <;> simp [hostCall, Psg.readReply, h]

/-- Settles O18: each of the six calls acts on the PSG block alone, so two machines that share the block share the reply
and the block after it. -/
theorem psgCallsTouchOnlyThePsg : Obligations.PsgCallsTouchOnlyThePsg := by
  intro address value hz n s s' hpsg call hmem
  have hacts : call.ActsOnPsgAlone := by
    simp only [List.mem_cons, List.not_mem_nil, or_false] at hmem
    rcases hmem with rfl | rfl | rfl | rfl | rfl | rfl
    · exact .of_psgCall (·.writeRegister address value) fun _ => rfl
    · exact .of_answer (·.readReply address) (hostCall_psgReadRegister address)
    · exact .of_psgCall (·.setClock hz) fun _ => rfl
    · exact .of_psgCall (·.setBufferLength n) fun _ => rfl
    · exact .of_answer (.samples ·.getBuffer) fun _ => rfl
    · exact .of_psgCall (·.generate n) fun _ => rfl
  obtain ⟨reply, q, hcall⟩ := hacts s.psg
  exact ⟨reply, q, hcall s rfl, hcall s' hpsg⟩

section
variable (tap : NoiseTap) (s : BitVec 16)

/-- Bit 15 of the successor is bit 0 XOR the tap bit (R911). -/
theorem lfsrNext_getLsbD_top : (lfsrNext tap s).getLsbD 15 = (s.getLsbD 0 ^^ s.getLsbD tap.val) := by
  simp [lfsrNext]

/-- Every other bit of the successor is the next higher bit of the seed (R911). -/
theorem lfsrNext_getLsbD_of_lt {k : Nat} (hk : k < 15) : (lfsrNext tap s).getLsbD k = s.getLsbD (k + 1) := by
  simp [lfsrNext, hk, Nat.add_comm]

/-- The bit that was moved out is the new bit XOR the tap bit, which now stands one lower. -/
theorem getLsbD_zero_eq_lfsrNext :
    s.getLsbD 0 = ((lfsrNext tap s).getLsbD 15 ^^ (lfsrNext tap s).getLsbD (tap.val - 1)) := by
  obtain ⟨hlo, hhi⟩ := tap.property
  have htap : (lfsrNext tap s).getLsbD (tap.val - 1) = s.getLsbD tap.val := by
    rw [lfsrNext_getLsbD_of_lt tap s (by omega), Nat.sub_add_cancel hlo]
  rw [lfsrNext_getLsbD_top, htap, Bool.xor_assoc, Bool.xor_self, Bool.xor_false]

/-- The zero seed stays zero (R911). -/
@[simp] theorem lfsrNext_zero : lfsrNext tap 0x0000#16 = 0x0000#16 := by simp [lfsrNext]

end

/-- Two seeds with one successor agree on bit 0 and on every bit above it. -/
theorem lfsrNext_injective (tap : NoiseTap) : Function.Injective (lfsrNext tap) := by
  intro s s' h
  refine BitVec.eq_of_getLsbD_eq fun k hk => ?_
  cases k with
  | zero => rw [getLsbD_zero_eq_lfsrNext tap s, getLsbD_zero_eq_lfsrNext tap s', h]
  | succ k =>
    have hk' : k < 15 := by omega
    rw [← lfsrNext_getLsbD_of_lt tap s hk', ← lfsrNext_getLsbD_of_lt tap s' hk', h]

/-- An injective map of the 2^16 seeds into themselves reaches every seed. -/
theorem lfsrNext_bijective (tap : NoiseTap) : Function.Bijective (lfsrNext tap) :=
  Finite.injective_iff_bijective.mp (lfsrNext_injective tap)

/-- The successor is zero exactly for the zero seed (R911). -/
theorem lfsrNext_eq_zero_iff (tap : NoiseTap) (s : BitVec 16) : lfsrNext tap s = 0x0000#16 ↔ s = 0x0000#16 :=
  ⟨fun h => lfsrNext_injective tap (h.trans (lfsrNext_zero tap).symm), fun h => h ▸ lfsrNext_zero tap⟩

/-- Settles O59: the bits of a successor give the seed back, so the step is injective, and a bijection as the seeds
are finitely many. -/
theorem lfsrStep : Obligations.LfsrStep := by
  refine ⟨fun tap s => ⟨lfsrNext_getLsbD_top tap s, fun k => lfsrNext_getLsbD_of_lt tap s,
    getLsbD_zero_eq_lfsrNext tap s, lfsrNext_eq_zero_iff tap s⟩, fun tap t => ?_, rfl, rfl, by decide⟩
  exact (lfsrNext_bijective tap).existsUnique t

end Sys2Proof.Machine
end

section
/-! PROOFS. What an instruction may leave changed: the effect of each operation, then of each shared meaning. -/

namespace Sys2Proof.Machine

/-- The state `t` differs from `s` in the flags `writes` allows, in SP if `movesSp` allows it, in the appended `events`,
in a stack fault raised, and otherwise only in A, X, Y, Z, PC, bytes of memory and the record of port operations. -/
structure Effect (writes : Flag → Bool) (movesSp : Bool) (events : List Diag) (s t : State) : Prop where
  flags : ∀ f, writes f = false → t.flag f = s.flag f
  sp : movesSp = false → t.sp = s.sp
  diag : t.diag = s.diag ++ events
  memory : s.mem.wf = true → t.mem.wf = true
  fault : (t.faulted = s.faulted ∧ t.lastResult = s.lastResult) ∨
    (s.cfg.stackLimit = .fault ∧ t.faulted = true ∧ t.lastResult ≠ .ok)
  cyc : t.cyc = s.cyc
  bound : t.bound = s.bound
  io : t.io = s.io
  cfg : t.cfg = s.cfg
  psg : t.psg = s.psg

namespace Effect

variable {writes : Flag → Bool} {movesSp : Bool} {events : List Diag} {s t : State}

theorem refl (s : State) : Effect writes movesSp [] s s where
  flags _ _ := rfl
  sp _ := rfl
  diag := (List.append_nil _).symm
  memory h := h
  fault := .inl ⟨rfl, rfl⟩
  cyc := rfl
  bound := rfl
  io := rfl
  cfg := rfl
  psg := rfl

/-! One more operation of the instruction, after those that led from `s` to `t`. -/

variable (h : Effect writes movesSp events s t)
include h

theorem setA (v : Byte) : Effect writes movesSp events s (t.setA v) := { h with }
theorem setX (v : Byte) : Effect writes movesSp events s (t.setX v) := { h with }
theorem setY (v : Byte) : Effect writes movesSp events s (t.setY v) := { h with }
theorem setZ (v : Byte) : Effect writes movesSp events s (t.setZ v) := { h with }
theorem setPc (w : Word) : Effect writes movesSp events s (t.setPc w) := { h with }
theorem advance (n : Nat) : Effect writes movesSp events s (t.advance n) := { h with }
theorem afterRead (a : Word) : Effect writes movesSp events s (t.afterRead a) := { h with }

theorem mem16 (a : Word) : Effect writes movesSp events s (t.mem16 a).2 := (h.afterRead a).afterRead (a + 1#16)

theorem ea (m : AddrMode) : Effect writes movesSp events s (t.ea m).2 := by
  rw [State.ea_frame]; exact { h with }

theorem load (src : Source) : Effect writes movesSp events s (t.load src).2 := by
  rw [State.load_frame]; exact { h with }

theorem relTarget (d : Displacement) : Effect writes movesSp events s (t.relTarget d).2 := by
  cases d with
  | short d => exact h.advance 1
  | word d => exact h.advance 2

theorem memWrite (a : Word) (v : Byte) : Effect writes movesSp events s (t.memWrite a v) :=
  { h with memory := fun hs => Memory.wf_write_word a v (h.memory hs) }

theorem memWrite16 (a w : Word) : Effect writes movesSp events s (t.memWrite16 a w) :=
  (h.memWrite a (lowByte w)).memWrite (a + 1#16) (highByte w)

theorem setSp (hsp : movesSp = true) (v : Byte) : Effect writes movesSp events s (t.setSp v) :=
  { h with sp := fun hn => absurd hn (by simp [hsp]) }

theorem setP (hall : ∀ f, writes f = true) (v : Byte) : Effect writes movesSp events s (t.setP v) :=
  { h with flags := fun f hf => absurd hf (by simp [hall f]) }

theorem setFlag {g : Flag} (hg : writes g = true) (v : Bool) : Effect writes movesSp events s (t.setFlag g v) :=
  { h with
    flags := fun f hf => by
      have hne : f ≠ g := fun e => by simp [e, hg] at hf
      rw [State.setFlag_flag, if_neg hne, h.flags f hf] }

theorem setNZ8 (hn : writes .n = true) (hz : writes .z = true) (v : Byte) :
    Effect writes movesSp events s (t.setNZ8 v) := (h.setFlag hz _).setFlag hn _

theorem setNZ16 (hn : writes .n = true) (hz : writes .z = true) (w : Word) :
    Effect writes movesSp events s (t.setNZ16 w) := (h.setFlag hz _).setFlag hn _

theorem setAlu (hn : writes .n = true) (hv : writes .v = true) (hz : writes .z = true) (hc : writes .c = true)
    (o : AluOut) : Effect writes movesSp events s (t.setAlu o) :=
  (((h.setFlag hc _).setFlag hv _).setA _).setNZ8 hn hz _

theorem setCompare (hn : writes .n = true) (hz : writes .z = true) (hc : writes .c = true) (r v : Byte) :
    Effect writes movesSp events s (t.setCompare r v) := (h.setFlag hc _).setNZ8 hn hz _

theorem emit (kind : DiagKind) (op : Byte) (addr : Word) :
    Effect writes movesSp (events ++ [⟨kind, op, addr⟩]) s (t.emit kind op addr) :=
  { h with diag := by rw [State.emit_diag, h.diag, List.append_assoc] }

theorem raiseStackFault (hlimit : t.cfg.stackLimit = .fault) (k : StackFaultKind) :
    Effect writes movesSp events s (t.raiseStackFault k) :=
  { h with fault := .inr ⟨h.cfg ▸ hlimit, rfl, fun e => nomatch e⟩ }

theorem rmw {f : Byte → State → Byte × State}
    (hf : ∀ v u, Effect writes movesSp events s u → Effect writes movesSp events s (f v u).2) (place : Place) :
    Effect writes movesSp events s (t.rmw place f) := by
  cases place with
  | acc => exact (hf _ _ h).setA _
  | mem m => exact (hf _ _ (h.load (.mem m))).memWrite _ _

/-- A push ends away from the limit or where the overflow was raised (R430). -/
theorem push (hsp : movesSp = true) (v : Byte) :
    ∃ u, Effect writes movesSp events s u ∧ (t.push v = .ok u ∨ t.push v = .error u) := by
  by_cases hlimit : t.sp = 0x00#8 ∧ t.cfg.stackLimit = .fault
  · exact ⟨_, (h.memWrite _ v).raiseStackFault hlimit.2 _, .inr (State.push_overflow v hlimit)⟩
  · exact ⟨_, (h.memWrite _ v).setSp hsp _, .inl (State.push_ok v hlimit)⟩

theorem push16 (hsp : movesSp = true) (w : Word) :
    ∃ u, Effect writes movesSp events s u ∧ (t.push16 w = .ok u ∨ t.push16 w = .error u) := by
  obtain ⟨u, hu, hok | herr⟩ := h.push hsp (highByte w)
  · simpa only [State.push16, hok] using hu.push hsp (lowByte w)
  · exact ⟨u, hu, .inr (by rw [State.push16, herr])⟩

/-- A pull ends away from the limit or where the underflow was raised (R431). -/
theorem pull (hsp : movesSp = true) :
    ∃ u, Effect writes movesSp events s u ∧ ((∃ v, t.pull = .ok (v, u)) ∨ t.pull = .error u) := by
  by_cases hlimit : t.sp = 0xFF#8 ∧ t.cfg.stackLimit = .fault
  · exact ⟨_, h.raiseStackFault hlimit.2 _, .inr (State.pull_underflow hlimit)⟩
  · exact ⟨_, (h.setSp hsp _).afterRead _, .inl ⟨_, State.pull_ok hlimit⟩⟩

theorem pull16 (hsp : movesSp = true) :
    ∃ u, Effect writes movesSp events s u ∧ ((∃ w, t.pull16 = .ok (w, u)) ∨ t.pull16 = .error u) := by
  obtain ⟨u, hu, ⟨lo, hok⟩ | herr⟩ := h.pull hsp
  · obtain ⟨u', hu', ⟨hi, hok'⟩ | herr'⟩ := hu.pull hsp
    · exact ⟨u', hu', .inl ⟨wordOf hi lo, by simp only [State.pull16, hok, hok']⟩⟩
    · exact ⟨u', hu', .inr (by simp only [State.pull16, hok, herr'])⟩
  · exact ⟨u, hu, .inr (by rw [State.pull16, herr])⟩

end Effect

/-- The meaning answers a next state, with the given effect on `s`. -/
def Answers (writes : Flag → Bool) (movesSp : Bool) (events : List Diag) (s : State) (r : Result) : Prop :=
  ∃ t, r = .next t ∧ Effect writes movesSp events s t

section
variable {writes : Flag → Bool} {movesSp : Bool} {s : State}

theorem Effect.answers {events : List Diag} {t : State} (h : Effect writes movesSp events s t) :
    Answers writes movesSp events s (.next t) := ⟨t, rfl, h⟩

theorem transfer_answers {set : State → Byte → State} (hn : writes .n = true) (hz : writes .z = true)
    (hset : ∀ {t}, Effect writes movesSp [] s t → ∀ v, Effect writes movesSp [] s (set t v)) (v : Byte) :
    Answers writes movesSp [] s (transfer set v s) := ((hset (.refl s) v).setNZ8 hn hz v).answers

theorem load_answers {set : State → Byte → State} (hn : writes .n = true) (hz : writes .z = true)
    (hset : ∀ {t}, Effect writes movesSp [] s t → ∀ v, Effect writes movesSp [] s (set t v)) (src : Source) :
    Answers writes movesSp [] s (load set src s) := ((hset ((Effect.refl s).load src) _).setNZ8 hn hz _).answers

theorem store_answers (r : Byte) (m : AddrMode) : Answers writes movesSp [] s (store r m s) :=
  (((Effect.refl s).ea m).memWrite _ r).answers

theorem logical_answers {f : Byte → Byte → Byte} (hn : writes .n = true) (hz : writes .z = true) (src : Source) :
    Answers writes movesSp [] s (logical f src s) :=
  ((((Effect.refl s).load src).setA _).setNZ8 hn hz _).answers

theorem ora_answers (hn : writes .n = true) (hz : writes .z = true) (src : Source) :
    Answers writes movesSp [] s (ora src s) :=
  logical_answers hn hz src

theorem andA_answers (hn : writes .n = true) (hz : writes .z = true) (src : Source) :
    Answers writes movesSp [] s (andA src s) := logical_answers hn hz src

theorem eor_answers (hn : writes .n = true) (hz : writes .z = true) (src : Source) :
    Answers writes movesSp [] s (eor src s) :=
  logical_answers hn hz src

theorem bitMemory_answers (hn : writes .n = true) (hz : writes .z = true) (hv : writes .v = true) (m : AddrMode) :
    Answers writes movesSp [] s (bitMemory m s) :=
  (((((Effect.refl s).load (.mem m)).setFlag hz _).setFlag hn _).setFlag hv _).answers

theorem bitImmediate_answers (hz : writes .z = true)
    (hnv : s.cfg.bitImmNV = true → writes .n = true ∧ writes .v = true) (v : Byte) :
    Answers writes movesSp [] s (bitImmediate v s) := by
  have hzero := ((Effect.refl (writes := writes) (movesSp := movesSp) s).advance 1).setFlag hz ((s.a &&& v) == 0#8)
  cases hcfg : s.cfg.bitImmNV
  · exact ⟨_, if_neg (by simp [hcfg]), hzero⟩
  · obtain ⟨hn, hv⟩ := hnv hcfg
    exact ⟨_, if_pos hcfg, (hzero.setFlag hn _).setFlag hv _⟩

theorem tsb_answers (hz : writes .z = true) (m : AddrMode) : Answers writes movesSp [] s (tsb m s) :=
  ((Effect.refl s).rmw (fun _ _ hu => hu.setFlag hz _) (.mem m)).answers

theorem trb_answers (hz : writes .z = true) (m : AddrMode) : Answers writes movesSp [] s (trb m s) :=
  ((Effect.refl s).rmw (fun _ _ hu => hu.setFlag hz _) (.mem m)).answers

theorem rmb_answers (n : Nat) (b : Byte) : Answers writes movesSp [] s (rmb n b s) :=
  ((Effect.refl s).rmw (fun _ _ hu => hu) _).answers

theorem smb_answers (n : Nat) (b : Byte) : Answers writes movesSp [] s (smb n b s) :=
  ((Effect.refl s).rmw (fun _ _ hu => hu) _).answers

theorem shift_answers {f : Byte → Bool → ShiftOut} (hn : writes .n = true) (hz : writes .z = true)
    (hc : writes .c = true) (place : Place) : Answers writes movesSp [] s (shift f place s) :=
  ((Effect.refl s).rmw (fun _ _ hu => (hu.setFlag hc _).setNZ8 hn hz _) place).answers

theorem asl_answers (hn : writes .n = true) (hz : writes .z = true) (hc : writes .c = true)
    (place : Place) : Answers writes movesSp [] s (asl place s) := shift_answers hn hz hc place

theorem lsr_answers (hn : writes .n = true) (hz : writes .z = true) (hc : writes .c = true)
    (place : Place) : Answers writes movesSp [] s (lsr place s) := shift_answers hn hz hc place

theorem rol_answers (hn : writes .n = true) (hz : writes .z = true) (hc : writes .c = true)
    (place : Place) : Answers writes movesSp [] s (rol place s) := shift_answers hn hz hc place

theorem ror_answers (hn : writes .n = true) (hz : writes .z = true) (hc : writes .c = true)
    (place : Place) : Answers writes movesSp [] s (ror place s) := shift_answers hn hz hc place

theorem asr_answers (hn : writes .n = true) (hz : writes .z = true) (hc : writes .c = true)
    (place : Place) : Answers writes movesSp [] s (asr place s) := shift_answers hn hz hc place

theorem shiftWordLeft_answers (hn : writes .n = true) (hz : writes .z = true) (hc : writes .c = true) (low : Bool)
    (w : Word) : Answers writes movesSp [] s (shiftWordLeft low w s) :=
  ((((((Effect.refl s).ea (.abs w)).mem16 _).setFlag hc _).memWrite16 _ _).setNZ16 hn hz _).answers

theorem asw_answers (hn : writes .n = true) (hz : writes .z = true) (hc : writes .c = true)
    (w : Word) : Answers writes movesSp [] s (asw w s) := shiftWordLeft_answers hn hz hc _ w

theorem row_answers (hn : writes .n = true) (hz : writes .z = true) (hc : writes .c = true)
    (w : Word) : Answers writes movesSp [] s (row w s) := shiftWordLeft_answers hn hz hc _ w

theorem inc_answers (hn : writes .n = true) (hz : writes .z = true) (place : Place) :
    Answers writes movesSp [] s (inc place s) :=
  ((Effect.refl s).rmw (fun _ _ hu => hu.setNZ8 hn hz _) place).answers

theorem dec_answers (hn : writes .n = true) (hz : writes .z = true) (place : Place) :
    Answers writes movesSp [] s (dec place s) :=
  ((Effect.refl s).rmw (fun _ _ hu => hu.setNZ8 hn hz _) place).answers

theorem updateWord_answers {f : Word → Word} (hn : writes .n = true) (hz : writes .z = true) (b : Byte) :
    Answers writes movesSp [] s (updateWord f b s) :=
  (((((Effect.refl s).ea (.bp b)).mem16 _).memWrite16 _ _).setNZ16 hn hz _).answers

theorem inw_answers (hn : writes .n = true) (hz : writes .z = true) (b : Byte) :
    Answers writes movesSp [] s (inw b s) :=
  updateWord_answers hn hz b

theorem dew_answers (hn : writes .n = true) (hz : writes .z = true) (b : Byte) :
    Answers writes movesSp [] s (dew b s) :=
  updateWord_answers hn hz b

theorem adc_answers (hn : writes .n = true) (hv : writes .v = true) (hz : writes .z = true) (hc : writes .c = true)
    (src : Source) : Answers writes movesSp [] s (adc src s) :=
  (((Effect.refl s).load src).setAlu hn hv hz hc _).answers

theorem sbc_answers (hn : writes .n = true) (hv : writes .v = true) (hz : writes .z = true) (hc : writes .c = true)
    (src : Source) : Answers writes movesSp [] s (sbc src s) :=
  (((Effect.refl s).load src).setAlu hn hv hz hc _).answers

theorem compare_answers (hn : writes .n = true) (hz : writes .z = true) (hc : writes .c = true) (r : Byte)
    (src : Source) : Answers writes movesSp [] s (compare r src s) :=
  (((Effect.refl s).load src).setCompare hn hz hc r _).answers

theorem setFlag_answers {g : Flag} (hg : writes g = true) (v : Bool) :
    Answers writes movesSp [] s (.next (s.setFlag g v)) := ((Effect.refl s).setFlag hg v).answers

theorem setSp_answers (hsp : movesSp = true) (v : Byte) : Answers writes movesSp [] s (.next (s.setSp v)) :=
  ((Effect.refl s).setSp hsp v).answers

theorem branch_answers (d : Displacement) (cond : Bool) : Answers writes movesSp [] s (branch d cond s) := by
  have htarget := (Effect.refl (writes := writes) (movesSp := movesSp) s).relTarget d
  rw [branch_eq]
  cases cond
  · exact htarget.answers
  · exact (htarget.setPc _).answers

theorem branchOnBit_answers (bit : Bool) (n : Nat) (b d : Byte) :
    Answers writes movesSp [] s (branchOnBit bit n b d s) := by
  have hread := ((Effect.refl (writes := writes) (movesSp := movesSp) s).advance 2).afterRead (zext b)
  rw [branchOnBit_eq]
  split
  · exact (hread.setPc _).answers
  · exact hread.answers

theorem bbr_answers (n : Nat) (b d : Byte) : Answers writes movesSp [] s (bbr n b d s) :=
  branchOnBit_answers _ n b d

theorem bbs_answers (n : Nat) (b d : Byte) : Answers writes movesSp [] s (bbs n b d s) :=
  branchOnBit_answers _ n b d

theorem jmp_answers (m : AddrMode) : Answers writes movesSp [] s (jmp m s) :=
  (((Effect.refl s).ea m).setPc _).answers

theorem call_answers {t : State} (h : Effect writes movesSp [] s t) (hsp : movesSp = true) (target : Word) :
    Answers writes movesSp [] s (call target t) := by
  obtain ⟨u, hu, hok | herr⟩ := h.push16 hsp (t.pc - 1#16)
  · rw [call, hok]; exact (hu.setPc target).answers
  · rw [call, herr]; exact hu.answers

theorem jsr_answers (hsp : movesSp = true) (m : AddrMode) : Answers writes movesSp [] s (jsr m s) :=
  call_answers ((Effect.refl s).ea m) hsp _

theorem bsr_answers (hsp : movesSp = true) (d : Word) : Answers writes movesSp [] s (bsr d s) :=
  call_answers ((Effect.refl s).relTarget (.word d)) hsp _

theorem rts_answers (hsp : movesSp = true) : Answers writes movesSp [] s (rts s) := by
  obtain ⟨u, hu, ⟨w, hok⟩ | herr⟩ := (Effect.refl (writes := writes) s).pull16 hsp
  · rw [rts, hok]; exact (hu.setPc _).answers
  · rw [rts, herr]; exact hu.answers

theorem rtn_answers (hsp : movesSp = true) (n : Byte) : Answers writes movesSp [] s (rtn n s) := by
  obtain ⟨u, hu, ⟨w, hok⟩ | herr⟩ := ((Effect.refl (writes := writes) s).advance 1).pull16 hsp
  · simp only [rtn, hok]
    have hpc := hu.setPc (w + 1#16)
    split
    · next hlimit => exact (hpc.raiseStackFault hlimit.2 _).answers
    · exact (hpc.setSp hsp _).answers
  · rw [rtn, herr]; exact hu.answers

theorem rti_answers (hsp : movesSp = true) (hall : ∀ f, writes f = true) :
    Answers writes movesSp [] s (rti s) := by
  obtain ⟨u, hu, ⟨v, hok⟩ | herr⟩ := (Effect.refl (writes := writes) s).pull hsp
  · obtain ⟨u', hu', ⟨w, hok'⟩ | herr'⟩ := (hu.setP hall v).pull16 hsp
    · simp only [rti, hok, hok']; exact (hu'.setPc w).answers
    · simp only [rti, hok, herr']; exact hu'.answers
  · rw [rti, herr]; exact hu.answers

/-- What `finish` answers is the state a push ended in, with or without a fault (R406, R432). -/
theorem finish_answers {events : List Diag} {r : Except State State}
    (h : ∃ u, Effect writes movesSp events s u ∧ (r = .ok u ∨ r = .error u)) :
    Answers writes movesSp events s (finish r) := by
  obtain ⟨u, hu, rfl | rfl⟩ := h
  · exact hu.answers
  · exact hu.answers

theorem pushByte_answers (hsp : movesSp = true) (v : Byte) : Answers writes movesSp [] s (pushByte v s) :=
  finish_answers ((Effect.refl s).push hsp v)

theorem pushImmediateWord_answers (hsp : movesSp = true) (w : Word) :
    Answers writes movesSp [] s (pushImmediateWord w s) :=
  finish_answers (((Effect.refl s).advance 2).push16 hsp w)

theorem pushMemoryWord_answers (hsp : movesSp = true) (w : Word) :
    Answers writes movesSp [] s (pushMemoryWord w s) :=
  finish_answers ((((Effect.refl s).ea (.abs w)).mem16 _).push16 hsp _)

theorem pullRegister_answers {set : State → Byte → State} (hsp : movesSp = true) (hn : writes .n = true)
    (hz : writes .z = true)
    (hset : ∀ {t}, Effect writes movesSp [] s t → ∀ v, Effect writes movesSp [] s (set t v)) :
    Answers writes movesSp [] s (pullRegister set s) := by
  obtain ⟨u, hu, ⟨v, hok⟩ | herr⟩ := (Effect.refl (writes := writes) s).pull hsp
  · rw [pullRegister, hok]; exact ((hset hu v).setNZ8 hn hz v).answers
  · rw [pullRegister, herr]; exact hu.answers

theorem pullFlags_answers (hsp : movesSp = true) (hall : ∀ f, writes f = true) :
    Answers writes movesSp [] s (pullFlags s) := by
  obtain ⟨u, hu, ⟨v, hok⟩ | herr⟩ := (Effect.refl (writes := writes) s).pull hsp
  · rw [pullFlags, hok]; exact (hu.setP hall v).answers
  · rw [pullFlags, herr]; exact hu.answers

theorem brk_answers (hb : writes .b = true) :
    Answers writes movesSp [⟨.break_, 0x00#8, s.pc - 1#16⟩] s (brk s) :=
  ((((Effect.refl s).advance 1).setFlag hb true).emit .break_ 0x00#8 (s.pc - 1#16)).answers

/-- TAB of `IMPLEMENTED` is a NOP (R660). -/
theorem tab_answers (hi : s.cfg.implements 0x5B#8 = true) : Answers writes movesSp [] s (tab s) := by
  rw [tab, if_pos hi]; exact (Effect.refl s).answers

/-- TBA of `IMPLEMENTED` clears A (R661). -/
theorem tba_answers (hi : s.cfg.implements 0x7B#8 = true) (hn : writes .n = true) (hz : writes .z = true) :
    Answers writes movesSp [] s (tba s) := by
  rw [tba, if_pos hi]; exact transfer_answers hn hz Effect.setA 0x00#8

end
end Sys2Proof.Machine
end

section
/-! PROOFS. The effect of every instruction, by its opcode (R107 to R114). -/

namespace Sys2Proof.Machine

/-- Whether the statements list an opcode among those that may write a flag (R109 to R112). -/
def mayWrite (cfg : CpuConfig) (op : Byte) (f : Flag) : Bool := (f.writers cfg).contains op

/-- Whether an opcode is listed among those that write SP (R107). -/
def mayMoveSp (op : Byte) : Bool := stackPointerWriters.contains op

/-- The diagnostic an implemented opcode appends: BRK's, naming the address the opcode was fetched from (R810). -/
def breakEvents (op : Byte) (addr : Word) : List Diag := if op = 0x00#8 then [⟨.break_, 0x00#8, addr⟩] else []

theorem mayWrite_of_implements_tba {cfg : CpuConfig} (hi : cfg.implements 0x7B#8 = true) :
    mayWrite cfg 0x7B#8 .n = true ∧ mayWrite cfg 0x7B#8 .z = true := by
  simp [mayWrite, Flag.writers, hi]

theorem mayWrite_of_bitImmNV {cfg : CpuConfig} (h : cfg.bitImmNV = true) :
    mayWrite cfg 0x89#8 .n = true ∧ mayWrite cfg 0x89#8 .v = true := by
  simp [mayWrite, Flag.writers, h]

/-- PLP writes every flag (R608). -/
theorem mayWrite_plp (cfg : CpuConfig) : ∀ f, mayWrite cfg 0x28#8 f = true := fun f => by cases f <;> rfl

/-- RTI writes every flag (R785). -/
theorem mayWrite_rti (cfg : CpuConfig) : ∀ f, mayWrite cfg 0x40#8 f = true := fun f => by cases f <;> rfl

/-- The opcode of an instruction is the first byte of its encoding, which the bytes written out show. -/
theorem Answers.of_encode {i : Instr} {op : Byte} {rest : List Byte} {s : State} (he : encode i = op :: rest)
    (h : Answers (mayWrite s.cfg op) (mayMoveSp op) (breakEvents op (s.pc - 1#16)) s (exec i s)) :
    Answers (mayWrite s.cfg i.opcode) (mayMoveSp i.opcode) (breakEvents i.opcode (s.pc - 1#16)) s (exec i s) := by
  have hop : i.opcode = op := by rw [Instr.opcode, he, List.headD_cons]
  rwa [hop]

/-- Every instruction of `IMPLEMENTED` answers a next state, and writes no flag and no SP that its opcode is not listed
for. -/
theorem exec_answers (i : Instr) (s : State) (hi : s.cfg.implements i.opcode = true) :
    Answers (mayWrite s.cfg i.opcode) (mayMoveSp i.opcode) (breakEvents i.opcode (s.pc - 1#16)) s (exec i s) := by
  cases i with (refine .of_encode rfl ?_; dsimp only [exec])
  | oraIndX | oraBp | oraImm | oraAbs | oraIndY | oraIndZ | oraBpX | oraAbsY | oraAbsX =>
    exact ora_answers (by rfl) (by rfl) _
  | andIndX | andBp | andImm | andAbs | andIndY | andIndZ | andBpX | andAbsY | andAbsX =>
    exact andA_answers (by rfl) (by rfl) _
  | eorIndX | eorBp | eorImm | eorAbs | eorIndY | eorIndZ | eorBpX | eorAbsY | eorAbsX =>
    exact eor_answers (by rfl) (by rfl) _
  | bitBp | bitAbs | bitBpX | bitAbsX => exact bitMemory_answers (by rfl) (by rfl) (by rfl) _
  | bitImm v => exact bitImmediate_answers (by rfl) mayWrite_of_bitImmNV v
  | tsbBp | tsbAbs => exact tsb_answers (by rfl) _
  | trbBp | trbAbs => exact trb_answers (by rfl) _
  | aslBp | aslA | aslAbs | aslBpX | aslAbsX => exact asl_answers (by rfl) (by rfl) (by rfl) _
  | lsrBp | lsrA | lsrAbs | lsrBpX | lsrAbsX => exact lsr_answers (by rfl) (by rfl) (by rfl) _
  | rolBp | rolA | rolAbs | rolBpX | rolAbsX => exact rol_answers (by rfl) (by rfl) (by rfl) _
  | rorBp | rorA | rorAbs | rorBpX | rorAbsX => exact ror_answers (by rfl) (by rfl) (by rfl) _
  | asrBp | asrA | asrBpX => exact asr_answers (by rfl) (by rfl) (by rfl) _
  | asw => exact asw_answers (by rfl) (by rfl) (by rfl) _
  | row => exact row_answers (by rfl) (by rfl) (by rfl) _
  | rmb0 | rmb1 | rmb2 | rmb3 | rmb4 | rmb5 | rmb6 | rmb7 => exact rmb_answers _ _
  | smb0 | smb1 | smb2 | smb3 | smb4 | smb5 | smb6 | smb7 => exact smb_answers _ _
  | php | pha | phx | phy | phz => exact pushByte_answers (by rfl) _
  | phwImm w => exact pushImmediateWord_answers (by rfl) w
  | phwAbs w => exact pushMemoryWord_answers (by rfl) w
  | pla => exact pullRegister_answers (by rfl) (by rfl) (by rfl) Effect.setA
  | plx => exact pullRegister_answers (by rfl) (by rfl) (by rfl) Effect.setX
  | ply => exact pullRegister_answers (by rfl) (by rfl) (by rfl) Effect.setY
  | plz => exact pullRegister_answers (by rfl) (by rfl) (by rfl) Effect.setZ
  | plp => exact pullFlags_answers (by rfl) (mayWrite_plp _)
  | txa | tya | tza | neg => exact transfer_answers (by rfl) (by rfl) Effect.setA _
  | tax | tsx | inx | dex => exact transfer_answers (by rfl) (by rfl) Effect.setX _
  | tay | tsy | iny | dey => exact transfer_answers (by rfl) (by rfl) Effect.setY _
  | taz | inz | dez => exact transfer_answers (by rfl) (by rfl) Effect.setZ _
  | txs | tys => exact setSp_answers (by rfl) _
  | tab => exact tab_answers hi
  | tba =>
    obtain ⟨hn, hz⟩ := mayWrite_of_implements_tba hi
    exact tba_answers hi hn hz
  | incA | incBp | incAbs | incBpX | incAbsX => exact inc_answers (by rfl) (by rfl) _
  | decA | decBp | decAbs | decBpX | decAbsX => exact dec_answers (by rfl) (by rfl) _
  | inw => exact inw_answers (by rfl) (by rfl) _
  | dew => exact dew_answers (by rfl) (by rfl) _
  | bplRel | bmiRel | bvcRel | bvsRel | bccRel | bcsRel | bneRel | beqRel | bruRel
  | bplWord | bmiWord | bvcWord | bvsWord | bccWord | bcsWord | bneWord | beqWord | bruWord =>
    exact branch_answers _ _
  | bbr0 | bbr1 | bbr2 | bbr3 | bbr4 | bbr5 | bbr6 | bbr7 => exact bbr_answers _ _ _
  | bbs0 | bbs1 | bbs2 | bbs3 | bbs4 | bbs5 | bbs6 | bbs7 => exact bbs_answers _ _ _
  | jmpAbs | jmpInd | jmpIndX => exact jmp_answers _
  | jsrAbs | jsrInd | jsrIndX => exact jsr_answers (by rfl) _
  | bsr d => exact bsr_answers (by rfl) d
  | rts => exact rts_answers (by rfl)
  | rtn n => exact rtn_answers (by rfl) n
  | rti => exact rti_answers (by rfl) (mayWrite_rti _)
  | clc | sec | cli | sei | cld | sed | clv | cle | see => exact setFlag_answers (by rfl) _
  | brk => exact brk_answers (by rfl)
  | nop => exact (Effect.refl s).answers
  | aug => exact ((Effect.refl s).advance 3).answers
  | ldaIndX | ldaBp | ldaImm | ldaAbs | ldaIndY | ldaIndZ | ldaBpX | ldaAbsY | ldaAbsX | ldaSpY =>
    exact load_answers (by rfl) (by rfl) Effect.setA _
  | ldxImm | ldxBp | ldxAbs | ldxBpY | ldxAbsY => exact load_answers (by rfl) (by rfl) Effect.setX _
  | ldyImm | ldyBp | ldyAbs | ldyBpX | ldyAbsX => exact load_answers (by rfl) (by rfl) Effect.setY _
  | ldzImm | ldzAbs | ldzAbsX => exact load_answers (by rfl) (by rfl) Effect.setZ _
  | staIndX | staSpY | staBp | staAbs | staIndY | staIndZ | staBpX | staAbsY | staAbsX | stxBp | stxAbs | stxBpY
  | stxAbsY | styBp | styAbs | styAbsX | styBpX | stzBp | stzBpX | stzAbs | stzAbsX =>
    exact store_answers _ _
  | adcIndX | adcBp | adcImm | adcAbs | adcIndY | adcIndZ | adcBpX | adcAbsY | adcAbsX =>
    exact adc_answers (by rfl) (by rfl) (by rfl) (by rfl) _
  | sbcIndX | sbcBp | sbcImm | sbcAbs | sbcIndY | sbcIndZ | sbcBpX | sbcAbsY | sbcAbsX =>
    exact sbc_answers (by rfl) (by rfl) (by rfl) (by rfl) _
  | cmpIndX | cmpBp | cmpImm | cmpAbs | cmpIndY | cmpIndZ | cmpBpX | cmpAbsY | cmpAbsX | cpxImm | cpxBp | cpxAbs
  | cpyImm | cpyBp | cpyAbs | cpzImm | cpzBp | cpzAbs =>
    exact compare_answers (by rfl) (by rfl) (by rfl) _ _

/-- The opcode of the instruction an entry of the opcode map makes of two operand bytes. -/
def rowOpcode (b1 b2 : Byte) (r : Row) : Byte := (r.build b1 b2).opcode

/-- The entries of the opcode map make the 256 opcodes in order, whatever the operand bytes (R305). -/
theorem opcodeMap_map_rowOpcode (b1 b2 : Byte) :
    opcodeMap.map (List.map (rowOpcode b1 b2)) =
      (List.range 16).map fun h => (List.range 16).map fun l => BitVec.ofNat 8 (16 * h + l) := rfl

/-- The opcode map's entry for an opcode builds an instruction of that opcode (R305). -/
theorem opcodeRow_build_opcode (op b1 b2 : Byte) : ((opcodeRow op).build b1 b2).opcode = op := by
  have hlow : op.toNat % 16 < 16 := Nat.mod_lt _ (by decide)
  have hhigh : op.toNat / 16 < 16 := Nat.div_lt_of_lt_mul op.isLt
  calc rowOpcode b1 b2 (opcodeRow op)
      = ((opcodeMap.getD (op.toNat / 16) []).map (rowOpcode b1 b2)).getD (op.toNat % 16)
          (rowOpcode b1 b2 (.bare .nop)) := (List.getD_map (f := rowOpcode b1 b2) _ _).symm
    _ = ((opcodeMap.map (List.map (rowOpcode b1 b2))).getD (op.toNat / 16) []).getD (op.toNat % 16)
          (rowOpcode b1 b2 (.bare .nop)) := by rw [← List.getD_map (f := List.map (rowOpcode b1 b2)), List.map_nil]
    _ = op := by
        rw [opcodeMap_map_rowOpcode]
        simp [List.getD_eq_getElem?_getD, hlow, hhigh, Nat.div_add_mod]

end Sys2Proof.Machine
end

section
/-! PROOFS. The effect of a step, and the statements it gives: what a step leaves, what it may write, the invariant. -/

namespace Sys2Proof.Machine

/-- The operand fetch makes an instruction of the opcode fetched (R402). -/
theorem State.fetchOperands_opcode (s : State) (op : Byte) : (s.fetchOperands op).1.opcode = op := by
  simp only [State.fetchOperands]
  split
  · exact opcodeRow_build_opcode op _ _
  · exact opcodeRow_build_opcode op _ _
  · exact opcodeRow_build_opcode op _ _

/-! What the fetch of the opcode and its cost leave as it was (R401). -/

section
variable (s : State)

@[simp] theorem State.prologue_sp : s.prologue.sp = s.sp := rfl
@[simp] theorem State.prologue_pc : s.prologue.pc = s.pc + 1#16 := rfl
@[simp] theorem State.prologue_bound : s.prologue.bound = s.bound := rfl
@[simp] theorem State.prologue_faulted : s.prologue.faulted = s.faulted := rfl
@[simp] theorem State.prologue_diag : s.prologue.diag = s.diag := rfl
@[simp] theorem State.prologue_mem : s.prologue.mem = s.mem := rfl
@[simp] theorem State.prologue_io : s.prologue.io = s.io := rfl
@[simp] theorem State.prologue_lastResult : s.prologue.lastResult = .ok := rfl
@[simp] theorem State.prologue_cfg : s.prologue.cfg = s.cfg := rfl
@[simp] theorem State.prologue_psg : s.prologue.psg = s.psg := rfl
@[simp] theorem State.prologue_flag (f : Flag) : s.prologue.flag f = s.flag f := rfl

end

/-- The diagnostics a step appends: an Unimplemented event for an opcode outside `IMPLEMENTED` (R404), a Break event
for BRK (R810), none for any other. -/
def State.stepEvents (s : State) : List Diag :=
  if s.cfg.implements (s.portByte s.pc) = false then [⟨.unimplemented, s.portByte s.pc, s.pc⟩]
  else breakEvents (s.portByte s.pc) s.pc

/-- An effect on the state after the operand fetch is one on the state before it (R407). -/
theorem Effect.of_fetchOperands {writes : Flag → Bool} {movesSp : Bool} {events : List Diag} {s t : State} {op : Byte}
    (h : Effect writes movesSp events (s.fetchOperands op).2 t) : Effect writes movesSp events s t := by
  rw [State.fetchOperands_frame] at h
  exact { h with }

/-- What a step that answers a next state does after the fetch of the opcode: it writes no flag and no SP that the
opcode is not listed for, and appends the diagnostic of the opcode. -/
theorem step_effect {s t : State} (h : step s = .next t) :
    Effect (mayWrite s.cfg (s.portByte s.pc)) (mayMoveSp (s.portByte s.pc)) s.stepEvents s.prologue t := by
  obtain ⟨-, -, ⟨hi, rfl⟩ | ⟨hi, hexec⟩⟩ := step_next h
  · have hskip := ((Effect.refl (writes := mayWrite s.cfg (s.portByte s.pc)) (movesSp := mayMoveSp (s.portByte s.pc))
      s.prologue).advance (opcodeLength (s.portByte s.pc) - 1)).emit .unimplemented (s.portByte s.pc)
      (s.prologue.pc - 1#16)
    simpa [State.stepEvents, hi, State.unimplemented] using hskip
  · have hop := State.fetchOperands_opcode s.prologue (s.portByte s.pc)
    have hcfg : (s.prologue.fetchOperands (s.portByte s.pc)).2.cfg = s.cfg := by rw [State.fetchOperands_frame]; rfl
    have hpc : (s.prologue.fetchOperands (s.portByte s.pc)).2.pc - 1#16 = s.pc := by
      rw [State.fetchOperands_frame]; simp
    obtain ⟨u, hu, heffect⟩ := exec_answers (s.prologue.fetchOperands (s.portByte s.pc)).1
      (s.prologue.fetchOperands (s.portByte s.pc)).2 (by rw [hop, hcfg, hi])
    rw [hop, hcfg, hpc] at heffect
    cases hexec.symm.trans hu
    simpa [State.stepEvents, hi] using heffect.of_fetchOperands

/-- Settles O9: the effect of a step on the fields no instruction writes, and on DIAG. -/
theorem stepLeavesTheRest : Obligations.StepLeavesTheRest := by
  intro s t h
  have heffect := step_effect h
  exact ⟨heffect.psg, heffect.cfg, heffect.bound, heffect.io, heffect.diag⟩

/-- Settles O11: the effect of a step on the flags and SP. -/
theorem flagAndStackPointerWriters : Obligations.FlagAndStackPointerWriters := by
  intro s t h
  have heffect := step_effect h
  refine ⟨fun f hf => heffect.flags f ?_, fun hsp => heffect.sp ?_⟩
  · simpa [mayWrite] using hf
  · simpa [mayMoveSp] using hsp

/-- An appended event is an Unimplemented one of an opcode outside `IMPLEMENTED`, or a Break one of opcode 0x00. -/
theorem State.mem_stepEvents {s : State} {e : Diag} (he : e ∈ s.stepEvents) :
    (e.kind = .unimplemented ∧ s.cfg.implements e.opcode = false) ∨ (e.kind = .break_ ∧ e.opcode = 0x00#8) := by
  unfold State.stepEvents breakEvents at he
  split at he
  · next hi => cases List.mem_singleton.mp he; exact .inl ⟨rfl, hi⟩
  · split at he
    · cases List.mem_singleton.mp he; exact .inr ⟨rfl, rfl⟩
    · cases he

/-- A step keeps the invariant of the CPU block. -/
theorem step_keeps_cpuInv {s t : State} (hinv : CpuInv s) (h : step s = .next t) : CpuInv t := by
  obtain ⟨-, hrunning, -⟩ := step_next h
  have heffect := step_effect h
  have hcfg : t.cfg = s.cfg := heffect.cfg
  have hdiag : ∀ e ∈ t.diag, e ∈ s.diag ∨
      (e.kind = .unimplemented ∧ s.cfg.implements e.opcode = false) ∨ (e.kind = .break_ ∧ e.opcode = 0x00#8) := by
    intro e he
    rw [heffect.diag, List.mem_append] at he
    exact he.imp_right State.mem_stepEvents
  have hfault : (t.faulted = false ∧ t.lastResult = .ok) ∨ (s.cfg.stackLimit = .fault ∧ t.faulted = true) := by
    obtain ⟨hf, hr⟩ | ⟨hl, hf, -⟩ := heffect.fault
    · exact .inl ⟨hf.trans hrunning, hr⟩
    · exact .inr ⟨hl, hf⟩
  constructor
  case memory => exact heffect.memory hinv.memory
  case breaks =>
    intro e he hkind
    obtain hold | ⟨hother, -⟩ | ⟨-, hop⟩ := hdiag e he
    · exact hinv.breaks e hold hkind
    · exact absurd (hkind.symm.trans hother) (by decide)
    · exact hop
  case unimplemented =>
    intro e he hkind
    rw [hcfg]
    obtain hold | ⟨-, hop⟩ | ⟨hother, -⟩ := hdiag e he
    · exact hinv.unimplemented e hold hkind
    · exact hop
    · exact absurd (hkind.symm.trans hother) (by decide)
  case faulted =>
    intro hf
    obtain ⟨hclear, -⟩ | ⟨hlimit, -⟩ := hfault
    · simp [hclear] at hf
    · rw [hcfg, hlimit]
  case returned =>
    intro hr
    obtain ⟨-, hok⟩ | ⟨-, hset⟩ := hfault
    · exact absurd hok hr
    · exact hset

/-- Settles O12: the CPU block by the effect of a step, the PSG block because no step touches it. -/
theorem stepKeepsInvariant : Obligations.StepKeepsInvariant := by
  intro s t ⟨hcpu, hpsg⟩ h
  have hsame : t.psg = s.psg := (step_effect h).psg
  exact ⟨step_keeps_cpuInv hcpu h, hsame ▸ hpsg⟩

end Sys2Proof.Machine
end

section
/-! PROOFS. The host calls: what each keeps, what each writes, the state after reset. -/

namespace Sys2Proof.Machine

/-! The derived state after a register write (R904): each lemma says that what R126 gives for the registers before the
write, the recomputation gives for those after it. -/

section
variable {p : Psg} {n : Nat} (hn : n < 16) (v : Byte)

/-- The block with the raw byte of one register replaced, then recomputed (R902, R904). -/
def Psg.written (p : Psg) (hn : n < 16) (v : Byte) : Psg := Psg.recompute { p with regs := p.regs.set n v hn } n

@[simp] theorem Psg.written_cfg : (p.written hn v).cfg = p.cfg := by rw [Psg.written, Psg.recompute_frame]
@[simp] theorem Psg.written_regs : (p.written hn v).regs = p.regs.set n v hn := by
  rw [Psg.written, Psg.recompute_frame]

theorem Psg.written_toneStep
    (h : p.toneStep = ⟨toneStepOf p.cfg p.regs[0] p.regs[1], toneStepOf p.cfg p.regs[2] p.regs[3],
      toneStepOf p.cfg p.regs[4] p.regs[5]⟩) :
    (p.written hn v).toneStep = ⟨toneStepOf p.cfg (p.regs.set n v hn)[0] (p.regs.set n v hn)[1],
      toneStepOf p.cfg (p.regs.set n v hn)[2] (p.regs.set n v hn)[3],
      toneStepOf p.cfg (p.regs.set n v hn)[4] (p.regs.set n v hn)[5]⟩ := by
  interval_cases n <;> simp [Psg.written, Psg.recompute, Psg.deriveVolume, PerChannel.set, h]

theorem Psg.written_noiseStep (h : p.regs[6].toNat <<< p.cfg.stepBias ≤ p.noiseStep) :
    (p.regs.set n v hn)[6].toNat <<< p.cfg.stepBias ≤ (p.written hn v).noiseStep := by
  interval_cases n <;> simp [Psg.written, Psg.recompute, Psg.deriveVolume, noiseStepOf, h]

theorem Psg.written_gates
    (h : p.toneGate = ⟨gateOf p.regs[7] 0, gateOf p.regs[7] 1, gateOf p.regs[7] 2⟩ ∧
      p.noiseGate = ⟨gateOf p.regs[7] 3, gateOf p.regs[7] 4, gateOf p.regs[7] 5⟩) :
    let r := (p.regs.set n v hn)[7]
    (p.written hn v).toneGate = ⟨gateOf r 0, gateOf r 1, gateOf r 2⟩ ∧
      (p.written hn v).noiseGate = ⟨gateOf r 3, gateOf r 4, gateOf r 5⟩ := by
  interval_cases n <;> simp [Psg.written, Psg.recompute, Psg.deriveVolume, h]

theorem Psg.written_volume
    (h : p.volume = ⟨volumeOf p.cfg p.regs[8], volumeOf p.cfg p.regs[9], volumeOf p.cfg p.regs[10]⟩) :
    (p.written hn v).volume = ⟨volumeOf p.cfg (p.regs.set n v hn)[8], volumeOf p.cfg (p.regs.set n v hn)[9],
      volumeOf p.cfg (p.regs.set n v hn)[10]⟩ := by
  interval_cases n <;> simp [Psg.written, Psg.recompute, Psg.deriveVolume, PerChannel.set, h]

theorem Psg.written_envEnable
    (h : p.envEnable = ⟨envEnableOf p.regs[8], envEnableOf p.regs[9], envEnableOf p.regs[10]⟩) :
    (p.written hn v).envEnable = ⟨envEnableOf (p.regs.set n v hn)[8], envEnableOf (p.regs.set n v hn)[9],
      envEnableOf (p.regs.set n v hn)[10]⟩ := by
  interval_cases n <;> simp [Psg.written, Psg.recompute, Psg.deriveVolume, PerChannel.set, h]

theorem PsgInv.written (hp : PsgInv p) : PsgInv (p.written hn v) where
  seed := by rw [Psg.written, Psg.recompute_frame]; exact hp.seed
  buffer := by rw [Psg.written, Psg.recompute_frame]; exact hp.buffer
  clock := by rw [Psg.written, Psg.recompute_frame]; exact hp.clock
  toneStep := by simpa only [Psg.written_cfg, Psg.written_regs] using Psg.written_toneStep hn v hp.toneStep
  noiseStep := by simpa only [Psg.written_cfg, Psg.written_regs] using Psg.written_noiseStep hn v hp.noiseStep
  gates := by simpa only [Psg.written_regs] using Psg.written_gates hn v hp.gates
  volume := by simpa only [Psg.written_cfg, Psg.written_regs] using Psg.written_volume hn v hp.volume
  envEnable := by simpa only [Psg.written_regs] using Psg.written_envEnable hn v hp.envEnable
  counters := by rw [Psg.written, Psg.recompute_frame]; exact hp.counters

end

/-! The synthesis keeps the invariant of the PSG block (R908 to R911). -/

section
variable {p : Psg} (hp : PsgInv p)
include hp

/-- The noise counter stays at or above 0, as it loses the noise step only when past it (R909). -/
theorem PsgInv.noiseAdvance_noiseCount : 0 ≤ p.noiseAdvance.noiseCount := by
  have hcount := hp.counters.1
  simp only [Psg.noiseAdvance_eq]
  split <;> omega

/-- The seed steps or stays, and neither gives zero (R911). -/
theorem PsgInv.noiseAdvance_seed : p.noiseAdvance.seed ≠ 0x0000#16 := by
  simp only [Psg.noiseAdvance_eq]
  split
  · exact fun hzero => hp.seed ((lfsrNext_eq_zero_iff _ _).mp hzero)
  · exact hp.seed

/-- A tone counter stays at or above 0, as it loses the tone step only when past it (R910). -/
theorem PsgInv.advanceCounters_toneCount (ch : Channel) : 0 ≤ p.advanceCounters.toneCount.get ch := by
  have hcount := hp.counters.2 ch
  rw [(p.advanceCounters_tone ch).1]
  split <;> omega

theorem PsgInv.advanceCounters : PsgInv p.advanceCounters where
  seed := by rw [Psg.advanceCounters_eq]; exact hp.noiseAdvance_seed
  buffer := by rw [Psg.advanceCounters_eq]; exact hp.buffer
  clock := by rw [Psg.advanceCounters_eq]; exact hp.clock
  toneStep := by rw [Psg.advanceCounters_eq]; exact hp.toneStep
  noiseStep := by rw [Psg.advanceCounters_eq]; exact hp.noiseStep
  gates := by rw [Psg.advanceCounters_eq]; exact hp.gates
  volume := by rw [Psg.advanceCounters_eq]; exact hp.volume
  envEnable := by rw [Psg.advanceCounters_eq]; exact hp.envEnable
  counters := ⟨by rw [Psg.advanceCounters_eq]; exact hp.noiseAdvance_noiseCount, hp.advanceCounters_toneCount⟩

theorem PsgInv.storePair (k v : Nat) : PsgInv (p.storePair k v) :=
  { hp with buffer := (p.storePair_buffer_length k v).trans hp.buffer }

theorem PsgInv.generatePair (k : Nat) : PsgInv (p.generatePair k) := hp.advanceCounters.storePair k _

end

theorem PsgInv.generatePairs (n : Nat) {p : Psg} (hp : PsgInv p) (k : Nat) : PsgInv (p.generatePairs k n) := by
  induction n generalizing p k with
  | zero => exact hp
  | succ n ih => exact ih (hp.generatePair k) (k + 1)

/-! What each PSG operation that succeeds answers meets the invariant (R902, R905, R906, R908). -/

section
variable {p q : Psg} (hp : PsgInv p)
include hp

theorem PsgInv.writeRegister {address value : Int} (h : p.writeRegister address value = .ok q) : PsgInv q := by
  unfold Psg.writeRegister at h
  split at h
  · split at h
    · cases h; exact hp.written _ _
    · cases h
  · cases h

theorem PsgInv.setClock {hz : Int} (h : p.setClock hz = .ok q) : PsgInv q := by
  unfold Psg.setClock at h
  split at h
  · cases h
  · next hpos => cases h; exact { hp with clock := ⟨by simpa using hpos, rfl⟩ }

theorem PsgInv.setBufferLength {n : Int} (h : p.setBufferLength n = .ok q) : PsgInv q := by
  unfold Psg.setBufferLength at h
  split at h
  · cases h
  · cases h; exact { hp with buffer := List.length_replicate }

theorem PsgInv.generate {n : Int} (h : p.generate n = .ok q) : PsgInv q := by
  unfold Psg.generate at h
  split at h
  · cases h
  · split at h
    · cases h
    · cases h; exact hp.generatePairs _ 0

end

/-! Each host call keeps the invariant of both blocks. -/

section
variable {s : State} (hs : Inv s)
include hs

/-- A PSG operation replaces the block by what it answers, or is rejected and changes nothing (R918). -/
theorem Inv.psgCall {r : Except InvalidArgument Psg} (hr : ∀ q, r = .ok q → PsgInv q) : Inv (s.psgCall r).2 := by
  cases r with
  | ok q => exact ⟨{ hs.1 with }, hr q rfl⟩
  | error k => exact hs

/-- A step leads to its next state, or stops and changes nothing (R400, R403). -/
theorem Inv.stepCall : Inv s.stepCall.2 := by
  unfold State.stepCall
  split
  · next t h =>
    have ht : Inv t := stepKeepsInvariant s t hs h
    split
    · exact ht
    · exact ht
  · exact hs
  · exact hs

/-- Initialisation clears FAULTED and the result together (R1100). -/
theorem Inv.initializeCpu : Inv (hostCall .initializeCpu s).2 :=
  ⟨{ hs.1 with faulted := fun hf => (nomatch hf), returned := fun hr => absurd rfl hr }, hs.2⟩

/-- What a binding hands over is put in canonical form (R116). -/
theorem Inv.bindMemory (contents : List Host.Cell) (io : List Word) : Inv (s.bindMemory contents io) :=
  ⟨{ hs.1 with memory := Memory.wf_ofCells contents }, hs.2⟩

theorem Inv.hostCall (call : HostCall) : Inv (hostCall call s).2 := by
  have hcpu : CpuInv s := hs.1
  have hpsg : PsgInv s.psg := hs.2
  cases call with
  | initializeCpu => exact hs.initializeCpu
  | bindMemory contents io => exact hs.bindMemory contents io
  | step => exact hs.stepCall
  | writeA | writeX | writeY | writeSp | writeP | writePc => exact ⟨{ hcpu with }, hpsg⟩
  | writeZ v =>
    change Inv (if s.cfg.extended then s.setZ v else s)
    split
    · exact ⟨{ hcpu with }, hpsg⟩
    · exact hs
  | writeMemory a v =>
    change Inv (if s.bound then { s with mem := s.mem.write a.toNat v } else s)
    split
    · exact ⟨{ hcpu with memory := Memory.wf_write_word a v hcpu.memory }, hpsg⟩
    · exact hs
  | psgWriteRegister address value => exact hs.psgCall fun q => hpsg.writeRegister
  | psgReadRegister address => rw [hostCall_psgReadRegister]; exact hs
  | psgSetClock hz => exact hs.psgCall fun q => hpsg.setClock
  | psgSetBufferLength n => exact hs.psgCall fun q => hpsg.setBufferLength
  | psgGetBuffer => exact hs
  | psgGenerate n => exact hs.psgCall fun q => hpsg.generate

end

/-- Settles O14, by induction on the list of calls. -/
theorem hostCallsKeepInvariant : Obligations.HostCallsKeepInvariant := by
  intro calls
  induction calls with
  | nil => exact fun s hs => hs
  | cons call rest ih => exact fun s hs => ih _ (hs.hostCall call)

/-! What a host write leaves unchanged (R119). -/

/-- A state that differs in the five registers alone, and among them in one only. -/
theorem completed_frame_of_regs (s : State) (a x y z sp : Byte) {g : Reg}
    (hreg : ∀ r ≠ g, State.reg { s with a := a, x := x, y := y, z := z, sp := sp } r = s.reg r) :
    Completed s { s with a := a, x := x, y := y, z := z, sp := sp } ∧
      Frame s { s with a := a, x := x, y := y, z := z, sp := sp } [g] [] [] := by
  have hregs : ∀ r ∉ [g], State.reg { s with a := a, x := x, y := y, z := z, sp := sp } r = s.reg r :=
    fun r hr => hreg r (by simpa using hr)
  exact ⟨⟨rfl, rfl, rfl⟩, hregs, fun f _ => rfl, fun b _ => rfl, rfl, rfl, rfl, rfl, rfl⟩

/-- A state that differs in one byte of memory alone (R203). -/
theorem completed_frame_of_mem_write (s : State) (a : Word) (v : Byte) :
    Completed s { s with mem := s.mem.write a.toNat v } ∧
      Frame s { s with mem := s.mem.write a.toNat v } [] [] [a] := by
  refine ⟨⟨rfl, rfl, rfl⟩, fun r _ => by cases r <;> rfl, fun f _ => rfl, fun b hb => ?_, rfl, rfl, rfl, rfl, rfl⟩
  have hne : b ≠ a := by simpa using hb
  simp [hne]

theorem hostCall_writeZ_extended {s : State} (h : s.cfg.extended = true) (v : Byte) :
    hostCall (.writeZ v) s = (.ok, s.setZ v) := by simp [hostCall, h]

theorem hostCall_writeZ_minimal {s : State} (h : s.cfg.extended = false) (v : Byte) :
    hostCall (.writeZ v) s = (.ok, s) := by simp [hostCall, h]

theorem hostCall_writeMemory {s : State} (h : s.bound = true) (a : Word) (v : Byte) :
    hostCall (.writeMemory a v) s = (.ok, { s with mem := s.mem.write a.toNat v }) := by simp [hostCall, h]

/-- Settles O17, register by register; a write of Z by the two variants. -/
theorem hostWritesWhatItNames : Obligations.HostWritesWhatItNames := by
  intro s v w a
  refine ⟨fun g hg => ?_, ?_, rfl, rfl, fun hbound => ?_⟩
  · simp only [List.mem_cons, List.not_mem_nil, or_false] at hg
    rcases hg with rfl | rfl | rfl | rfl
    · exact ⟨s.setA v, rfl, rfl, rfl, completed_frame_of_regs s v s.x s.y s.z s.sp fun r hr => by cases r <;> trivial⟩
    · exact ⟨s.setX v, rfl, rfl, rfl, completed_frame_of_regs s s.a v s.y s.z s.sp fun r hr => by cases r <;> trivial⟩
    · exact ⟨s.setY v, rfl, rfl, rfl, completed_frame_of_regs s s.a s.x v s.z s.sp fun r hr => by cases r <;> trivial⟩
    · exact ⟨s.setSp v, rfl, rfl, rfl, completed_frame_of_regs s s.a s.x s.y s.z v fun r hr => by cases r <;> trivial⟩
  · cases hext : s.cfg.extended
    · exact ⟨s, hostCall_writeZ_minimal hext v, by simp, rfl,
        completed_frame_of_regs s s.a s.x s.y s.z s.sp fun _ _ => rfl⟩
    · exact ⟨s.setZ v, hostCall_writeZ_extended hext v, by simp, rfl,
        completed_frame_of_regs s s.a s.x s.y v s.sp fun r hr => by cases r <;> trivial⟩
  · exact ⟨_, hostCall_writeMemory hbound a v, by simp, rfl, completed_frame_of_mem_write s a v⟩

/-- Settles O16: the fields of the two constructed blocks, register by register, flag by flag, channel by channel. -/
theorem resetState : Obligations.ResetState := by
  refine ⟨fun r => ?_, fun f => ?_, rfl, rfl, rfl, rfl, rfl, fun k hk => ?_, rfl, rfl, rfl, fun ch => ?_, rfl, rfl,
    rfl, rfl⟩
  · cases r <;> rfl
  · cases f <;> rfl
  · exact Vector.getElem_replicate hk
  · cases ch <;> exact ⟨rfl, rfl, rfl, rfl, rfl, rfl, rfl⟩

end Sys2Proof.Machine
end

section
/-! PROOFS. The memory port: what a read of plain RAM answers after a write, for bytes and for words. -/

namespace Sys2Proof.Machine

/-- A word as the number its two bytes spell, high byte first (R12). -/
theorem wordOf_toNat (h l : Byte) : (wordOf h l).toNat = 256 * h.toNat + l.toNat := by
  rw [wordOf, BitVec.toNat_append, ← Nat.shiftLeft_add_eq_or_of_lt l.isLt, Nat.shiftLeft_eq, Nat.mul_comm]

/-- The address after `a`, modulo 2^16 (R204). -/
theorem toNat_succ_address (a : Word) : (a + 1#16).toNat = (a.toNat + 1) % 65536 := BitVec.toNat_add a 1#16

/-- No address is its own successor, the last one included, whose successor is 0. -/
theorem address_ne_succ (a : Word) : a ≠ a + 1#16 := by bv_omega

section
variable {s : State} {a : Word}

/-- A byte written is read back; other addresses of plain RAM answer as before (R203). -/
theorem State.memWrite_portByte {b : Word} (hb : s.isIo b = false) (v : Byte) :
    (s.memWrite a v).portByte b = if b = a then v else s.portByte b := by
  rw [State.portByte_of_not_io (s := s.memWrite a v) hb, State.portByte_of_not_io hb]
  exact Memory.read_write_word s.mem a b v

/-- A read uses up a draw at most, so plain RAM answers the same after it (R203). -/
theorem State.afterRead_portByte {b : Word} (hb : s.isIo b = false) : (s.afterRead a).portByte b = s.portByte b := by
  rw [State.portByte_of_not_io (s := s.afterRead a) hb, State.portByte_of_not_io hb, State.afterRead_mem]

variable (hlo : s.isIo a = false) (hhi : s.isIo (a + 1#16) = false)
include hlo hhi

/-- A word of plain RAM is its two bytes, the low one at `a` (R204, R205). -/
theorem State.mem16_fst_of_not_io : (s.mem16 a).1 = wordOf (s.mem.read (a + 1#16).toNat) (s.mem.read a.toNat) := by
  rw [State.mem16_fst, State.afterRead_portByte hhi, State.portByte_of_not_io hlo, State.portByte_of_not_io hhi]

/-- The two port operations of a word read, low byte first (R205). -/
theorem State.mem16_portOps_of_not_io : (s.mem16 a).2.portOps = s.portOps ++
    [.read a (s.mem.read a.toNat), .read (a + 1#16) (s.mem.read (a + 1#16).toNat)] := by
  rw [State.mem16_snd, State.afterRead_portOps, State.afterRead_portOps, State.afterRead_portByte hhi,
    State.portByte_of_not_io hlo, State.portByte_of_not_io hhi, List.append_assoc, List.singleton_append]

/-- A word written to plain RAM is read back: its two bytes stand at different addresses (R204). -/
theorem State.memWrite16_mem16 (w : Word) : ((s.memWrite16 a w).mem16 a).1 = w := by
  have hlow : (s.memWrite16 a w).mem.read a.toNat = lowByte w := by
    rw [State.memWrite16_read, if_neg (address_ne_succ a), if_pos rfl]
  have hhigh : (s.memWrite16 a w).mem.read (a + 1#16).toNat = highByte w := by
    rw [State.memWrite16_read, if_pos rfl]
  rw [State.mem16_fst_of_not_io (s := s.memWrite16 a w) hlo hhi, hlow, hhigh, wordOf_high_low]

end

/-- Settles O19: the byte rules of the port, then the word read and the word written and read back. -/
theorem portReadsWhatWasWritten : Obligations.PortReadsWhatWasWritten := by
  refine ⟨fun s a b v hb => ⟨State.memWrite_portByte hb v, State.afterRead_mem s a⟩, fun s a hlo hhi => ?_,
    fun s a w hlo hhi => State.memWrite16_mem16 hlo hhi w⟩
  rw [← toNat_succ_address, State.mem16_fst_of_not_io hlo hhi, wordOf_toNat]
  exact ⟨rfl, State.mem16_portOps_of_not_io hlo hhi⟩

end Sys2Proof.Machine
end

section
/-! PROOFS. The encoder and the decoder, each the other's inverse (30_encoding.md). -/

namespace Sys2Proof

open Sys2Proof.Machine (opcodeRow_build_opcode wordOf_toNat)

@[simp] theorem lowByte_wordOf (h l : Byte) : lowByte (wordOf h l) = l := by
  refine BitVec.eq_of_toNat_eq ?_
  rw [lowByte, BitVec.extractLsb'_toNat, wordOf_toNat, Nat.shiftRight_zero, Nat.mul_add_mod, Nat.mod_eq_of_lt l.isLt]

@[simp] theorem highByte_wordOf (h l : Byte) : highByte (wordOf h l) = h := by
  have hdiv : (256 * h.toNat + l.toNat) / 256 = h.toNat := by omega
  refine BitVec.eq_of_toNat_eq ?_
  rw [highByte, BitVec.extractLsb'_toNat, wordOf_toNat, Nat.shiftRight_eq_div_pow, hdiv, Nat.mod_eq_of_lt h.isLt]

/-! The decoder, by the opcode map's entry. -/

/-- Every entry takes its opcode byte (R300). -/
theorem Row.length_pos (r : Row) : 0 < r.length := by cases r <;> simp [Row.length]

/-- Bytes after the entry's own operand bytes do not matter to the instruction it makes (R313). -/
theorem Row.build_append {r : Row} {operands : List Byte} (hlen : operands.length + 1 = r.length) (rest : List Byte) :
    r.build ((operands ++ rest).getD 0 0#8) ((operands ++ rest).getD 1 0#8) =
      r.build (operands.getD 0 0#8) (operands.getD 1 0#8) := by
  cases r with
  | bare | skip => rfl
  | byte mk =>
    obtain ⟨b, rfl⟩ := List.length_eq_one_iff.mp (Nat.succ.inj hlen)
    rfl
  | word mk | bytes mk =>
    obtain ⟨b1, b2, rfl⟩ := List.length_eq_two.mp (Nat.succ.inj hlen)
    rfl

/-- What decoding answers: an opcode, the operand bytes its entry takes, the instruction the entry makes of them, and
the bytes after them (R307, R313). -/
theorem decode_eq_ok_iff {bytes rest : List Byte} {i : Instr} :
    decode bytes = .ok (i, rest) ↔
      ∃ op operands, bytes = op :: operands ++ rest ∧ operands.length + 1 = (opcodeRow op).length ∧
        (opcodeRow op).build (operands.getD 0 0#8) (operands.getD 1 0#8) = i := by
  constructor
  · intro h
    cases bytes with
    | nil => simp [decode] at h
    | cons op tail =>
      have hpos := (opcodeRow op).length_pos
      simp only [decode] at h
      split at h
      · cases h
      · next henough =>
        obtain ⟨hbuild, hrest⟩ : _ ∧ tail.drop ((opcodeRow op).length - 1) = rest := by simpa using h
        have hlen : (tail.take ((opcodeRow op).length - 1)).length + 1 = (opcodeRow op).length := by
          rw [List.length_take]; omega
        refine ⟨op, tail.take ((opcodeRow op).length - 1), ?_, hlen, ?_⟩
        · rw [← hrest, List.cons_append, List.take_append_drop]
        · rw [← Row.build_append hlen (tail.drop _), List.take_append_drop]
          simpa using hbuild
  · rintro ⟨op, operands, rfl, hlen, rfl⟩
    have hdrop : (opcodeRow op).length - 1 = operands.length := by omega
    rw [List.cons_append, decode, if_neg (by rw [List.length_append]; omega), Row.build_append hlen, hdrop,
      List.drop_left]

/-! Each instruction's encoding against the entry of its opcode. -/

/-- Every instruction has the length of its opcode's entry, and that entry makes it of its encoding's bytes (R305,
R307): the operand bytes are the operands, but for a 16-bit operand, whose two bytes make the word. -/
theorem encodedLength (i : Instr) : Laws.EncodedLength.Statement i := by
  cases i with refine Laws.encodedLength_of_row rfl rfl rfl ?_
  | tsbAbs w | oraAbs w | aslAbs w | bplWord w | oraAbsY w | trbAbs w | oraAbsX w | aslAbsX w | jsrAbs w | jsrInd w
  | jsrIndX w | bitAbs w | andAbs w | rolAbs w | bmiWord w | andAbsY w | bitAbsX w | andAbsX w | rolAbsX w | jmpAbs w
  | eorAbs w | lsrAbs w | bvcWord w | eorAbsY w | eorAbsX w | lsrAbsX w | bsr w | jmpInd w | adcAbs w | rorAbs w
  | bvsWord w | adcAbsY w | jmpIndX w | adcAbsX w | rorAbsX w | bruWord w | styAbsX w | styAbs w | staAbs w | stxAbs w
  | bccWord w | staAbsY w | stxAbsY w | stzAbs w | staAbsX w | stzAbsX w | ldzAbs w | ldyAbs w | ldaAbs w | ldxAbs w
  | bcsWord w | ldaAbsY w | ldzAbsX w | ldyAbsX w | ldaAbsX w | ldxAbsY w | asw w | cpyAbs w | cmpAbs w | decAbs w
  | bneWord w | cmpAbsY w | cpzAbs w | cmpAbsX w | decAbsX w | row w | cpxAbs w | sbcAbs w | incAbs w | beqWord w
  | phwImm w | sbcAbsY w | phwAbs w | sbcAbsX w | incAbsX w =>
    exact congrArg _ (wordOf_high_low w)
  | _ => rfl

/-- The bytes of an instruction are its opcode and operand bytes, as many as its opcode's entry takes (R301, R305). -/
theorem encode_eq_opcode_cons (i : Instr) :
    ∃ operands, encode i = i.opcode :: operands ∧ operands.length + 1 = (opcodeRow i.opcode).length ∧
      (opcodeRow i.opcode).build (operands.getD 0 0#8) (operands.getD 1 0#8) = i := by
  obtain ⟨hlen, hbuild⟩ := encodedLength i
  rw [opcodeLength] at hlen
  have hpos := (opcodeRow i.opcode).length_pos
  cases he : encode i with
  | nil => rw [he, List.length_nil] at hlen; omega
  | cons op operands =>
    have hop : i.opcode = op := by rw [Instr.opcode, he, List.headD_cons]
    rw [he] at hlen hbuild
    exact ⟨operands, by rw [hop], hlen, by simpa using hbuild⟩

/-- Settles O1: the bytes of the encoding are those the decoder takes for the opcode's entry, which makes the
instruction again. -/
theorem decodeOfEncodeIsTheInstruction : Obligations.DecodeOfEncodeIsTheInstruction := by
  intro i rest
  obtain ⟨operands, hbytes, hlen, hbuild⟩ := encode_eq_opcode_cons i
  exact decode_eq_ok_iff.mpr ⟨i.opcode, operands, by rw [hbytes], hlen, hbuild⟩

/-! Each entry of the opcode map against the encoding of the instruction it makes. -/

/-- The entry of an opcode stands in the opcode map: every byte has its place there (R300, R308). -/
theorem opcodeRow_mem (op : Byte) : ∃ rows ∈ opcodeMap, opcodeRow op ∈ rows := by
  have hhigh : op.toNat / 16 < opcodeMap.length := Nat.div_lt_of_lt_mul op.isLt
  have hsixteen : ∀ rows ∈ opcodeMap, rows.length = 16 := by decide
  have hrows : opcodeMap[op.toNat / 16] ∈ opcodeMap := List.getElem_mem hhigh
  have hlow : op.toNat % 16 < opcodeMap[op.toNat / 16].length := by
    rw [hsixteen _ hrows]; exact Nat.mod_lt _ (by decide)
  rw [opcodeRow, List.getD_eq_getElem _ _ hhigh, List.getD_eq_getElem _ _ hlow]
  exact ⟨_, hrows, List.getElem_mem hlow⟩

/-- The operand bytes the encoder writes for the instruction an entry makes of two operand bytes; skipped bytes are
written 0 (entry 16). -/
def Row.writtenOperands (b1 b2 : Byte) : Row → List Byte
  | .bare _ => []
  | .byte _ => [b1]
  | .word _ => [lowByte (wordOf b2 b1), highByte (wordOf b2 b1)]
  | .bytes _ => [b1, b2]
  | .skip n _ => List.replicate n 0#8

theorem opcodeMap_map_encode_build (b1 b2 : Byte) :
    opcodeMap.map (List.map fun r => encode (r.build b1 b2)) =
      opcodeMap.map (List.map fun r => (r.build b1 b2).opcode :: r.writtenOperands b1 b2) := rfl

/-- What the encoder writes for the instruction the entry of an opcode makes (R301, R305). -/
theorem encode_opcodeRow_build (op b1 b2 : Byte) :
    encode ((opcodeRow op).build b1 b2) = op :: (opcodeRow op).writtenOperands b1 b2 := by
  obtain ⟨rows, hrows, hrow⟩ := opcodeRow_mem op
  have hmap := List.map_inj_left.mp (opcodeMap_map_encode_build b1 b2) rows hrows
  rw [List.map_inj_left.mp hmap _ hrow, opcodeRow_build_opcode]

/-- The instruction of an entry that skips its operand bytes. -/
def Row.skipped : Row → Option Instr
  | .skip _ i => some i
  | _ => none

/-- BRK and AUG are the instructions whose operand bytes are skipped (R207, R301). -/
theorem opcodeMap_filterMap_skipped : opcodeMap.flatMap (List.filterMap Row.skipped) = [.brk, .aug] := rfl

theorem opcodeRow_eq_skip {op : Byte} {n : Nat} {i : Instr} (h : opcodeRow op = .skip n i) : i = .brk ∨ i = .aug := by
  obtain ⟨rows, hrows, hrow⟩ := opcodeRow_mem op
  have hmem : i ∈ opcodeMap.flatMap (List.filterMap Row.skipped) :=
    List.mem_flatMap.mpr ⟨rows, hrows, List.mem_filterMap.mpr ⟨opcodeRow op, hrow, by rw [h, Row.skipped]⟩⟩
  rwa [opcodeMap_filterMap_skipped, List.mem_cons, List.mem_singleton] at hmem

/-- Operand bytes that are read are written back as they were (R301 to R304). -/
theorem Row.writtenOperands_eq {r : Row} {operands : List Byte} (hlen : operands.length + 1 = r.length)
    (hread : ∀ n i, r ≠ .skip n i) : r.writtenOperands (operands.getD 0 0#8) (operands.getD 1 0#8) = operands := by
  cases r with
  | skip n i => exact absurd rfl (hread n i)
  | bare => exact (List.length_eq_zero_iff.mp (Nat.succ.inj hlen)).symm
  | byte mk =>
    obtain ⟨b, rfl⟩ := List.length_eq_one_iff.mp (Nat.succ.inj hlen)
    rfl
  | word mk =>
    obtain ⟨b1, b2, rfl⟩ := List.length_eq_two.mp (Nat.succ.inj hlen)
    simp [Row.writtenOperands]
  | bytes mk =>
    obtain ⟨b1, b2, rfl⟩ := List.length_eq_two.mp (Nat.succ.inj hlen)
    rfl

/-- Settles O2: the bytes consumed are the opcode and the operand bytes of its entry, and the encoder writes the
operand bytes that are read back. -/
theorem decodedBytesAreTheEncoding : Obligations.DecodedBytesAreTheEncoding := by
  intro bytes i rest h
  obtain ⟨op, operands, hbytes, hlen, rfl⟩ := decode_eq_ok_iff.mp h
  have hop := opcodeRow_build_opcode op (operands.getD 0 0#8) (operands.getD 1 0#8)
  refine ⟨op :: operands, hbytes, ?_, by rw [hop, List.head?_cons], fun hbrk haug => ?_⟩
  · rw [(encodedLength _).1, hop]
    exact hlen
  · rw [encode_opcodeRow_build, Row.writtenOperands_eq hlen]
    intro n i hskip
    rw [hskip] at hbrk haug
    exact (opcodeRow_eq_skip hskip).elim hbrk haug

/-- Settles O3: the words with operands are what the encoder writes; the bytes BRK and AUG skip may be any. -/
theorem specWordsDecode : Obligations.SpecWordsDecode :=
  ⟨decodeOfEncodeIsTheInstruction (.oraImm 0x12#8) [],
    decodeOfEncodeIsTheInstruction (.stxAbsY 0x1234#16) [],
    decodeOfEncodeIsTheInstruction (.bbr3 0x10#8 0x05#8) [],
    decodeOfEncodeIsTheInstruction (.phwImm 0x1234#16) [],
    decodeOfEncodeIsTheInstruction (.bruWord 0x1000#16) [],
    rfl, rfl⟩

end Sys2Proof
end

section
/-! PROOFS. The minimal variant: no meaning but TAB's and TBA's looks at `EXTENDED`; otherwise only `IMPLEMENTED` does
(R312). -/

namespace Sys2Proof.Machine

/-- The outcome of a meaning, in the minimal variant. -/
def minimalResult : Result → Result
  | .next t => .next t.minimal
  | .fault r => .fault r
  | .refused r => .refused r

/-- Two ends of a meaning, told apart by a condition on which both variants agree. -/
theorem next_ite_minimal (c : Prop) [Decidable c] (t u : State) :
    (if c then .next t.minimal else .next u.minimal : Result) = minimalResult (if c then .next t else .next u) := by
  split <;> rfl

section
variable (s : State)

/-! The operations, run by the minimal variant. -/

theorem State.ea_minimal (m : AddrMode) : s.minimal.ea m = ((s.ea m).1, (s.ea m).2.minimal) := by
  cases m <;> rfl

theorem State.load_minimal (src : Source) : s.minimal.load src = ((s.load src).1, (s.load src).2.minimal) := by
  cases src with
  | imm | acc => rfl
  | mem m => rw [State.load_mem, State.load_mem, State.ea_minimal]; rfl

theorem State.rmw_minimal {f : Byte → State → Byte × State}
    (hf : ∀ v t, f v (State.minimal t) = ((f v t).1, (f v t).2.minimal)) (place : Place) :
    s.minimal.rmw place f = (s.rmw place f).minimal := by
  cases place with
  | acc => rw [State.rmw_acc, hf]; rfl
  | mem m => rw [State.rmw_mem, State.load_minimal, State.ea_minimal, hf]; rfl

theorem State.push_minimal (v : Byte) :
    s.minimal.push v = ((s.push v).map State.minimal).mapError State.minimal := by
  by_cases hlimit : s.sp = 0x00#8 ∧ s.cfg.stackLimit = .fault
  · rw [State.push_overflow v hlimit, State.push_overflow (s := s.minimal) v hlimit]; rfl
  · rw [State.push_ok v hlimit, State.push_ok (s := s.minimal) v hlimit]; rfl

theorem State.pull_minimal :
    s.minimal.pull = (s.pull.map (Prod.map id State.minimal)).mapError State.minimal := by
  by_cases hlimit : s.sp = 0xFF#8 ∧ s.cfg.stackLimit = .fault
  · rw [State.pull_underflow hlimit, State.pull_underflow (s := s.minimal) hlimit]; rfl
  · rw [State.pull_ok hlimit, State.pull_ok (s := s.minimal) hlimit]; rfl

theorem State.push16_minimal (w : Word) :
    s.minimal.push16 w = ((s.push16 w).map State.minimal).mapError State.minimal := by
  rw [State.push16, State.push16, State.push_minimal]
  cases s.push (highByte w) with
  | error t => rfl
  | ok t => exact t.push_minimal (lowByte w)

theorem State.pull16_minimal :
    s.minimal.pull16 = (s.pull16.map (Prod.map id State.minimal)).mapError State.minimal := by
  rw [State.pull16, State.pull16, State.pull_minimal]
  rcases s.pull with t | ⟨lo, t⟩
  · rfl
  · simp only [Except.map, Except.mapError, Prod.map, State.pull_minimal]
    rcases t.pull with u | ⟨hi, u⟩ <;> rfl

/-! The shared meanings, run by the minimal variant. -/

theorem transfer_minimal {set : State → Byte → State}
    (hset : ∀ t v, set (State.minimal t) v = (set t v).minimal) (v : Byte) :
    transfer set v s.minimal = minimalResult (transfer set v s) := by
  rw [transfer_eq, transfer_eq, hset]; rfl

theorem load_minimal {set : State → Byte → State}
    (hset : ∀ t v, set (State.minimal t) v = (set t v).minimal) (src : Source) :
    load set src s.minimal = minimalResult (load set src s) := by
  rw [load_eq, load_eq, State.load_minimal, hset]; rfl

theorem store_minimal (r : Byte) (m : AddrMode) : store r m s.minimal = minimalResult (store r m s) := by
  rw [store_eq, store_eq, State.ea_minimal]; rfl

theorem logical_minimal (f : Byte → Byte → Byte) (src : Source) :
    logical f src s.minimal = minimalResult (logical f src s) := by
  rw [logical_eq, logical_eq, State.load_minimal]; rfl

theorem ora_minimal (src : Source) : ora src s.minimal = minimalResult (ora src s) := logical_minimal s _ src

theorem andA_minimal (src : Source) : andA src s.minimal = minimalResult (andA src s) := logical_minimal s _ src

theorem eor_minimal (src : Source) : eor src s.minimal = minimalResult (eor src s) := logical_minimal s _ src

theorem bitMemory_minimal (m : AddrMode) : bitMemory m s.minimal = minimalResult (bitMemory m s) := by
  rw [bitMemory_eq, bitMemory_eq, State.load_minimal]; rfl

theorem bitImmediate_minimal (v : Byte) : bitImmediate v s.minimal = minimalResult (bitImmediate v s) := by
  exact next_ite_minimal (s.cfg.bitImmNV = true)
    ((((s.advance 1).setFlag .z ((s.a &&& v) == 0#8)).setFlag .n (v.getLsbD 7)).setFlag .v (v.getLsbD 6))
    ((s.advance 1).setFlag .z ((s.a &&& v) == 0#8))

/-- The read-modify-write meanings: TSB, TRB, RMB, SMB, the shifts, INC, DEC. -/
theorem next_rmw_minimal {f : Byte → State → Byte × State}
    (hf : ∀ v t, f v (State.minimal t) = ((f v t).1, (f v t).2.minimal)) (place : Place) :
    (.next (s.minimal.rmw place f) : Result) = minimalResult (.next (s.rmw place f)) :=
  congrArg Host.Outcome.next (s.rmw_minimal hf place)

theorem adc_minimal (src : Source) : adc src s.minimal = minimalResult (adc src s) := by
  rw [adc_eq, adc_eq, State.load_minimal]; rfl

theorem sbc_minimal (src : Source) : sbc src s.minimal = minimalResult (sbc src s) := by
  rw [sbc_eq, sbc_eq, State.load_minimal]; rfl

theorem compare_minimal (r : Byte) (src : Source) :
    compare r src s.minimal = minimalResult (compare r src s) := by
  rw [compare_eq, compare_eq, State.load_minimal]; rfl

theorem branch_minimal (d : Displacement) (cond : Bool) :
    branch d cond s.minimal = minimalResult (branch d cond s) := by
  cases d <;> cases cond <;> rfl

theorem branchOnBit_minimal (bit : Bool) (n : Nat) (b d : Byte) :
    branchOnBit bit n b d s.minimal = minimalResult (branchOnBit bit n b d s) := by
  have hbyte : s.minimal.portByte (zext b) = s.portByte (zext b) := rfl
  rw [branchOnBit_eq, branchOnBit_eq, hbyte]
  split <;> rfl

theorem jmp_minimal (m : AddrMode) : jmp m s.minimal = minimalResult (jmp m s) := by
  rw [jmp_eq, jmp_eq, State.ea_minimal]; rfl

theorem call_minimal (target : Word) : call target s.minimal = minimalResult (call target s) := by
  have hpc : s.minimal.pc = s.pc := rfl
  rw [call, call, hpc, State.push16_minimal]
  cases s.push16 (s.pc - 1#16) <;> rfl

theorem jsr_minimal (m : AddrMode) : jsr m s.minimal = minimalResult (jsr m s) := by
  rw [jsr, State.ea_minimal]
  exact call_minimal _ _

theorem pushByte_minimal (v : Byte) : pushByte v s.minimal = minimalResult (pushByte v s) := by
  rw [pushByte, pushByte, State.push_minimal]
  cases s.push v <;> rfl

theorem finish_push16_minimal (w : Word) : finish (s.minimal.push16 w) = minimalResult (finish (s.push16 w)) := by
  rw [State.push16_minimal]
  cases s.push16 w <;> rfl

theorem pullRegister_minimal {set : State → Byte → State}
    (hset : ∀ t v, set (State.minimal t) v = (set t v).minimal) :
    pullRegister set s.minimal = minimalResult (pullRegister set s) := by
  rw [pullRegister, pullRegister, State.pull_minimal]
  rcases s.pull with t | ⟨v, t⟩
  · rfl
  · exact congrArg (fun u : State => Host.Outcome.next (u.setNZ8 v)) (hset t v)

theorem pullFlags_minimal : pullFlags s.minimal = minimalResult (pullFlags s) := by
  rw [pullFlags, pullFlags, State.pull_minimal]
  cases s.pull <;> rfl

theorem rts_minimal : rts s.minimal = minimalResult (rts s) := by
  rw [rts, rts, State.pull16_minimal]
  cases s.pull16 <;> rfl

theorem rtn_minimal (n : Byte) : rtn n s.minimal = minimalResult (rtn n s) := by
  have hadvance : s.minimal.advance 1 = (s.advance 1).minimal := rfl
  rw [rtn, rtn, hadvance, State.pull16_minimal]
  rcases (s.advance 1).pull16 with t | ⟨w, t⟩
  · rfl
  · exact next_ite_minimal (t.sp.toNat + n.toNat > 0xFF ∧ t.cfg.stackLimit = .fault)
      ((t.setPc (w + 1#16)).raiseStackFault .underflow) ((t.setPc (w + 1#16)).setSp (t.sp + n))

theorem rti_minimal : rti s.minimal = minimalResult (rti s) := by
  rw [rti, rti, State.pull_minimal]
  rcases s.pull with t | ⟨v, t⟩
  · rfl
  · have hp : t.minimal.setP v = (t.setP v).minimal := rfl
    simp only [Except.map, Except.mapError, Prod.map, id, hp, State.pull16_minimal]
    rcases (t.setP v).pull16 with u | ⟨w, u⟩ <;> rfl

end

/-- Every instruction but TAB and TBA, whose meanings ask `IMPLEMENTED` (R660, R661), does the same in the minimal
variant. -/
theorem exec_minimal (i : Instr) (s : State) (htab : i ≠ .tab) (htba : i ≠ .tba) :
    exec i s.minimal = minimalResult (exec i s) := by
  cases i with dsimp only [exec]
  | tab => exact absurd rfl htab
  | tba => exact absurd rfl htba
  | oraIndX | oraBp | oraImm | oraAbs | oraIndY | oraIndZ | oraBpX | oraAbsY | oraAbsX =>
    exact ora_minimal s _
  | andIndX | andBp | andImm | andAbs | andIndY | andIndZ | andBpX | andAbsY | andAbsX =>
    exact andA_minimal s _
  | eorIndX | eorBp | eorImm | eorAbs | eorIndY | eorIndZ | eorBpX | eorAbsY | eorAbsX =>
    exact eor_minimal s _
  | bitBp | bitAbs | bitBpX | bitAbsX => exact bitMemory_minimal s _
  | bitImm v => exact bitImmediate_minimal s v
  | tsbBp | tsbAbs | trbBp | trbAbs | aslBp | aslA | aslAbs | aslBpX | aslAbsX | lsrBp | lsrA | lsrAbs | lsrBpX
  | lsrAbsX | rolBp | rolA | rolAbs | rolBpX | rolAbsX | rorBp | rorA | rorAbs | rorBpX | rorAbsX
  | asrBp | asrA | asrBpX
  | rmb0 | rmb1 | rmb2 | rmb3 | rmb4 | rmb5 | rmb6 | rmb7 | smb0 | smb1 | smb2 | smb3 | smb4 | smb5 | smb6 | smb7
  | incA | incBp | incAbs | incBpX | incAbsX | decA | decBp | decAbs | decBpX | decAbsX =>
    exact next_rmw_minimal s (fun _ _ => rfl) _
  | php | pha | phx | phy | phz => exact pushByte_minimal s _
  | phwImm w => exact finish_push16_minimal (s.advance 2) w
  | phwAbs w => exact finish_push16_minimal ((s.advance 2).mem16 w).2 ((s.advance 2).mem16 w).1
  | pla | plx | ply | plz => exact pullRegister_minimal s fun _ _ => rfl
  | plp => exact pullFlags_minimal s
  | txa | tya | tza | neg | tax | tsx | inx | dex | tay | tsy | iny | dey | taz | inz | dez =>
    exact transfer_minimal s (fun _ _ => rfl) _
  | bplRel | bmiRel | bvcRel | bvsRel | bccRel | bcsRel | bneRel | beqRel | bruRel
  | bplWord | bmiWord | bvcWord | bvsWord | bccWord | bcsWord | bneWord | beqWord | bruWord =>
    exact branch_minimal s _ _
  | bbr0 | bbr1 | bbr2 | bbr3 | bbr4 | bbr5 | bbr6 | bbr7 | bbs0 | bbs1 | bbs2 | bbs3 | bbs4 | bbs5 | bbs6 | bbs7 =>
    exact branchOnBit_minimal s _ _ _ _
  | jmpAbs | jmpInd | jmpIndX => exact jmp_minimal s _
  | jsrAbs | jsrInd | jsrIndX => exact jsr_minimal s _
  | bsr d => exact call_minimal (s.advance 2) _
  | rts => exact rts_minimal s
  | rtn n => exact rtn_minimal s n
  | rti => exact rti_minimal s
  | asw | row | inw | dew | txs | tys | clc | sec | cli | sei | cld | sed | clv | cle | see | brk | nop | aug => rfl
  | ldaIndX | ldaBp | ldaImm | ldaAbs | ldaIndY | ldaIndZ | ldaBpX | ldaAbsY | ldaAbsX | ldaSpY | ldxImm | ldxBp
  | ldxAbs | ldxBpY | ldxAbsY | ldyImm | ldyBp | ldyAbs | ldyBpX | ldyAbsX | ldzImm | ldzAbs | ldzAbsX =>
    exact load_minimal s (fun _ _ => rfl) _
  | staIndX | staSpY | staBp | staAbs | staIndY | staIndZ | staBpX | staAbsY | staAbsX | stxBp | stxAbs | stxBpY
  | stxAbsY | styBp | styAbs | styAbsX | styBpX | stzBp | stzBpX | stzAbs | stzAbsX =>
    exact store_minimal s _ _
  | adcIndX | adcBp | adcImm | adcAbs | adcIndY | adcIndZ | adcBpX | adcAbsY | adcAbsX => exact adc_minimal s _
  | sbcIndX | sbcBp | sbcImm | sbcAbs | sbcIndY | sbcIndZ | sbcBpX | sbcAbsY | sbcAbsX => exact sbc_minimal s _
  | cmpIndX | cmpBp | cmpImm | cmpAbs | cmpIndY | cmpIndZ | cmpBpX | cmpAbsY | cmpAbsX | cpxImm | cpxBp | cpxAbs
  | cpyImm | cpyBp | cpyAbs | cpzImm | cpzBp | cpzAbs =>
    exact compare_minimal s _ _

/-- The opcodes the base map lists are the 151 of R312, in order. -/
theorem minimalOpcodes_eq : minimalOpcodes = ((List.range 256).map (BitVec.ofNat 8)).filter base6502 := by
  decide

theorem mem_minimalOpcodes_iff (op : Byte) : op ∈ minimalOpcodes ↔ base6502 op = true := by
  have hop : op ∈ (List.range 256).map (BitVec.ofNat 8) :=
    List.mem_map.mpr ⟨op.toNat, List.mem_range.mpr op.isLt, by rw [BitVec.ofNat_toNat, BitVec.setWidth_eq]⟩
  rw [minimalOpcodes_eq, List.mem_filter, and_iff_right hop]

/-- An opcode not left out is in the minimal variant's `IMPLEMENTED` exactly when it is one of the 151 (R312). -/
theorem implements_iff_mem_minimalOpcodes {cfg : CpuConfig} (hext : cfg.extended = false) {op : Byte}
    (hkept : op ∉ cfg.unimplemented) : cfg.implements op = true ↔ op ∈ minimalOpcodes := by
  simp [CpuConfig.implements, hext, hkept, mem_minimalOpcodes_iff]

theorem not_mem_unimplemented {cfg : CpuConfig} {op : Byte} (h : cfg.implements op = true) :
    op ∉ cfg.unimplemented := by
  obtain ⟨hkept, -⟩ : op ∉ cfg.unimplemented ∧ _ := by simpa [CpuConfig.implements] using h
  exact hkept

/-- The operand fetch reads the same bytes in the minimal variant (R407). -/
theorem State.fetchOperands_minimal (s : State) (op : Byte) :
    s.minimal.fetchOperands op = ((s.fetchOperands op).1, (s.fetchOperands op).2.minimal) := by
  unfold State.fetchOperands
  cases opcodeRow op <;> rfl

/-- The step of an opcode both variants implement: one instruction, run in two states that differ in `EXTENDED`. -/
theorem step_minimal_of_mem {s : State} (hb : s.bound = true) (hf : s.faulted = false)
    (hi : s.cfg.implements (s.portByte s.pc) = true) (hmem : s.portByte s.pc ∈ minimalOpcodes) :
    ∃ t, step s = .next t ∧ step s.minimal = .next t.minimal := by
  have himin : s.minimal.cfg.implements (s.portByte s.pc) = true :=
    (implements_iff_mem_minimalOpcodes (cfg := s.minimal.cfg) rfl (not_mem_unimplemented (cfg := s.cfg) hi)).mpr hmem
  have hcfg : (s.prologue.fetchOperands (s.portByte s.pc)).2.cfg = s.cfg := by rw [State.fetchOperands_frame]; rfl
  have hop := s.prologue.fetchOperands_opcode (s.portByte s.pc)
  have hrun : step s = _ := step_implemented hb hf hi
  have hrunmin : step s.minimal = _ := step_implemented (s := s.minimal) hb hf himin
  have hprologue : s.minimal.prologue = s.prologue.minimal := rfl
  have hbyte : s.minimal.portByte s.minimal.pc = s.portByte s.pc := rfl
  rw [hprologue, hbyte, State.fetchOperands_minimal] at hrunmin
  generalize s.prologue.fetchOperands (s.portByte s.pc) = fetch at hcfg hop hrun hrunmin
  obtain ⟨i, u⟩ := fetch
  dsimp only at hcfg hop hrun hrunmin
  obtain ⟨t, hexec, -⟩ := exec_answers i u (by rw [hop, hcfg, hi])
  have htab : i ≠ .tab := fun e => absurd hmem (by rw [← hop, e]; decide)
  have htba : i ≠ .tba := fun e => absurd hmem (by rw [← hop, e]; decide)
  exact ⟨t, hrun.trans hexec, by rw [hrunmin, exec_minimal i u htab htba, hexec, minimalResult]⟩

/-! The unimplemented-opcode rule, after the fetch of the opcode (R404). -/

section
variable (s : State) (op : Byte)

theorem State.unimplemented_reg (r : Reg) : (s.unimplemented op).reg r = s.reg r := by cases r <;> rfl
theorem State.charge_reg (r : Reg) : (s.charge op).reg r = s.reg r := by cases r <;> rfl
theorem State.prologue_reg (r : Reg) : s.prologue.reg r = s.reg r := by cases r <;> rfl
theorem State.prologue_cyc : s.prologue.cyc = (s.charge (s.portByte s.pc)).cyc := rfl

/-- PC past the opcode and the operand bytes skipped is PC past the instruction (R307). -/
theorem State.prologue_unimplemented_pc :
    (s.prologue.unimplemented op).pc = s.pc + BitVec.ofNat 16 (opcodeLength op) := by
  have hlen : 1 + (opcodeLength op - 1) = opcodeLength op := Nat.add_sub_cancel' (opcodeRow op).length_pos
  rw [State.unimplemented_pc, State.prologue_pc, BitVec.add_assoc, ← BitVec.ofNat_add, hlen]

/-- The diagnostic names the address the opcode was fetched from. -/
theorem State.prologue_unimplemented_diag :
    (s.prologue.unimplemented op).diag = s.diag ++ [⟨.unimplemented, op, s.pc⟩] := by
  rw [State.unimplemented_diag, State.prologue_pc, BitVec.add_sub_cancel, State.prologue_diag]

/-- All else is as after the cost was charged. -/
theorem frame_prologue_unimplemented :
    Frame (s.charge (s.portByte s.pc)) (s.prologue.unimplemented op) [] [] [] where
  regs r _ := by rw [State.unimplemented_reg, State.prologue_reg, State.charge_reg]
  flags f _ := by rw [State.unimplemented_flag, State.prologue_flag, State.charge_flag]
  memory _ _ := by rw [State.unimplemented_mem, State.prologue_mem, State.charge_mem]
  cyc := by rw [State.unimplemented_cyc, State.prologue_cyc]
  bound := by rw [State.unimplemented_bound, State.prologue_bound, State.charge_bound]
  io := by rw [State.unimplemented_io, State.prologue_io, State.charge_io]
  cfg := by rw [State.unimplemented_cfg, State.prologue_cfg, State.charge_cfg]
  psg := by rw [State.unimplemented_psg, State.prologue_psg, State.charge_psg]

end

/-- The step of an opcode outside the 151 (R312, R404). -/
theorem step_minimal_of_not_mem {s : State} (hb : s.bound = true) (hf : s.faulted = false)
    (hkept : s.portByte s.pc ∉ s.cfg.unimplemented) (hmem : s.portByte s.pc ∉ minimalOpcodes) :
    step s.minimal = .next (s.minimal.prologue.unimplemented (s.portByte s.pc)) := by
  have hout : s.minimal.cfg.implements (s.portByte s.pc) = false :=
    Bool.eq_false_iff.mpr fun h => hmem ((implements_iff_mem_minimalOpcodes (cfg := s.minimal.cfg) rfl hkept).mp h)
  exact step_unimplemented (s := s.minimal) hb hf hout

/-- Settles O4: the meanings do not look at `EXTENDED`, and `IMPLEMENTED` then is the 151 opcodes. -/
theorem minimalVariantRunsTheSameRules : Obligations.MinimalVariantRunsTheSameRules := by
  refine ⟨fun cfg hext hnone op => implements_iff_mem_minimalOpcodes hext (by simp [hnone]),
    fun s hb hf _ hi => ⟨step_minimal_of_mem hb hf hi, fun hmem => ?_⟩⟩
  have hfaulted : (s.minimal.prologue.unimplemented (s.portByte s.pc)).faulted = false := by
    rw [State.unimplemented_faulted, State.prologue_faulted]; exact hf
  exact ⟨_, step_minimal_of_not_mem hb hf (not_mem_unimplemented hi) hmem, s.minimal.prologue_unimplemented_pc _,
    s.minimal.prologue_unimplemented_diag _, by rw [State.unimplemented_lastResult, State.prologue_lastResult],
    hfaulted, frame_prologue_unimplemented s.minimal _⟩

end Sys2Proof.Machine
end

section
/-! PROOFS. The addressing modes and operands (R410 to R428): addresses as numbers, modulo 2^16. -/

namespace Sys2Proof.Machine

theorem zext_toNat (b : Byte) : (zext b).toNat = b.toNat := by
  rw [zext, BitVec.toNat_setWidth_of_le (by decide)]

/-- An index is added to an address modulo 2^16 (R414 to R424). -/
theorem toNat_add_zext (w : Word) (b : Byte) : (w + zext b).toNat = (w.toNat + b.toNat) % 65536 := by
  rw [BitVec.toNat_add, zext_toNat]

theorem zext_eq_ofNat (b : Byte) : zext b = BitVec.ofNat 16 b.toNat := (BitVec.ofNat_toNat 16 b).symm

/-- A displacement is added to an address as a signed number, modulo 2^16 (R426, R427). -/
theorem toNat_add_toInt (w d : Word) : ((w + d).toNat : Int) = (w.toNat + d.toInt) % 65536 := by
  rw [BitVec.toNat_add, BitVec.toInt_eq_toNat_cond]
  split <;> omega

/-- Settles O20: each sum of a base and an index is below 2^16 or wraps. -/
theorem directAddresses : Obligations.DirectAddresses := by
  intro s b w m hm
  have hb : (zext b).toNat = b.toNat % 65536 := by rw [zext_toNat]; omega
  have hw : w.toNat = w.toNat % 65536 := by omega
  simp only [List.mem_cons, List.not_mem_nil, or_false] at hm
  rcases hm with rfl | rfl | rfl | rfl | rfl | rfl
  · exact ⟨hb, rfl⟩
  · exact ⟨(toNat_add_zext _ s.x).trans (by rw [zext_toNat]), rfl⟩
  · exact ⟨(toNat_add_zext _ s.y).trans (by rw [zext_toNat]), rfl⟩
  · exact ⟨hw, rfl⟩
  · exact ⟨toNat_add_zext w s.x, rfl⟩
  · exact ⟨toNat_add_zext w s.y, rfl⟩

/-- What a pointer mode answers (R419 to R424): the word at the address `p`, low byte first, plus the index `i`; `k`
operand bytes are consumed and the two bytes are read. -/
def PointerRead (s : State) (p i k : Nat) (r : Word × State) : Prop :=
  let at_ := BitVec.ofNat 16 p
  let low := s.portByte at_
  let high := (s.afterRead at_).portByte (at_ + 1#16)
  r.1.toNat = (256 * high.toNat + low.toNat + i) % 65536 ∧
    r.2 = { s with
      pc := s.pc + BitVec.ofNat 16 k
      ioDraws := ((s.afterRead at_).afterRead (at_ + 1#16)).ioDraws
      portOps := s.portOps ++ [.read at_ low, .read (at_ + 1#16) high] }

section
variable {s : State} {p : Nat} {a : Word} (k : Nat)

/-- The operand bytes are consumed, then the two bytes of the pointer are read, low byte first (R205). -/
theorem State.mem16_snd_advance : ((s.advance k).mem16 a).2 = { s with
    pc := s.pc + BitVec.ofNat 16 k
    ioDraws := ((s.afterRead a).afterRead (a + 1#16)).ioDraws
    portOps := s.portOps ++ [.read a (s.portByte a), .read (a + 1#16) ((s.afterRead a).portByte (a + 1#16))] } := by
  rw [← List.singleton_append, ← List.append_assoc]
  rfl

/-- An indexed pointer (R420 to R422). -/
theorem pointerRead_indirect (ha : a = BitVec.ofNat 16 p) (i : Byte) :
    PointerRead s p i.toNat k ((s.advance k).indirect a i) := by
  subst ha
  refine ⟨?_, State.mem16_snd_advance k⟩
  rw [State.indirect_fst, toNat_add_zext, State.mem16_fst, wordOf_toNat]
  rfl

/-- A pointer without an index (R419, R423, R424): a word is below 2^16. -/
theorem pointerRead_mem16 (ha : a = BitVec.ofNat 16 p) : PointerRead s p 0 k ((s.advance k).mem16 a) := by
  subst ha
  refine ⟨?_, State.mem16_snd_advance k⟩
  rw [← Nat.mod_eq_of_lt (BitVec.isLt _), State.mem16_fst, wordOf_toNat]
  rfl

end

/-! Where the pointers stand: each address as a number modulo 2^16 (R419 to R424). -/

theorem address_eq_ofNat (w : Word) : w = BitVec.ofNat 16 w.toNat := by rw [BitVec.ofNat_toNat, BitVec.setWidth_eq]

theorem add_zext_eq_ofNat (w : Word) (i : Byte) : w + zext i = BitVec.ofNat 16 (w.toNat + i.toNat) := by
  rw [zext_eq_ofNat, BitVec.ofNat_add, ← address_eq_ofNat]

theorem zext_add_zext_eq_ofNat (b i : Byte) : zext b + zext i = BitVec.ofNat 16 (b.toNat + i.toNat) := by
  rw [add_zext_eq_ofNat, zext_toNat]

theorem stackAddr_add_zext_eq_ofNat (sp d : Byte) :
    stackAddr sp + zext d = BitVec.ofNat 16 (0x0100 + sp.toNat + d.toNat) := by
  rw [stackAddr, zext_eq_ofNat, zext_eq_ofNat, BitVec.ofNat_add, BitVec.ofNat_add]
  rfl

/-- Settles O21: where each pointer stands, then the pointer read there. -/
theorem pointerAddresses : Obligations.PointerAddresses := by
  intro s b d w m hm
  simp only [List.mem_cons, List.not_mem_nil, or_false] at hm
  rcases hm with rfl | rfl | rfl | rfl | rfl | rfl
  · exact pointerRead_mem16 1 (zext_add_zext_eq_ofNat b s.x)
  · exact pointerRead_indirect 1 (zext_eq_ofNat b) s.y
  · exact pointerRead_indirect 1 (zext_eq_ofNat b) s.z
  · exact pointerRead_indirect 1 (stackAddr_add_zext_eq_ofNat s.sp d) s.y
  · exact pointerRead_mem16 2 (address_eq_ofNat w)
  · exact pointerRead_mem16 2 (add_zext_eq_ofNat w s.x)

/-- Settles O22: the operands by their definition, the two targets by signed addition modulo 2^16. -/
theorem operandsAndTargets : Obligations.OperandsAndTargets := by
  refine ⟨fun _ _ => rfl, fun _ => rfl, State.load_mem, fun s d => ⟨rfl, ?_⟩, fun s d => ⟨rfl, ?_⟩⟩
  · rw [State.relTarget_short, toNat_add_toInt, sext, BitVec.toInt_signExtend_of_le (by decide)]
  · rw [State.relTarget_word, toNat_add_toInt]

end Sys2Proof.Machine
end

section
/-! PROOFS. How an instruction ends: which can raise a stack fault, and where PC stands when none is raised (R405,
R432). -/

namespace Sys2Proof.Machine

/-- How an instruction that began in `s` ends in `t`: only one that `raises` can have raised a stack fault, and one that
does not `jump` and raised none has moved PC past its `n` operand bytes. -/
structure Ends (raises jumps : Bool) (n : Nat) (s t : State) : Prop where
  unraised : raises = false → t.faulted = s.faulted ∧ t.lastResult = s.lastResult
  pc : jumps = false → t.lastResult = .ok → t.pc = s.pc + BitVec.ofNat 16 n

namespace Ends

/-! The operations that begin an instruction, then those that follow them. -/

variable {raises jumps : Bool} {n : Nat} {s t : State}

theorem advance (s : State) (n : Nat) : Ends raises jumps n s (s.advance n) where
  unraised _ := ⟨rfl, rfl⟩
  pc _ _ := rfl

theorem refl (s : State) : Ends raises jumps 0 s s where
  unraised _ := ⟨rfl, rfl⟩
  pc _ _ := (BitVec.add_zero s.pc).symm

theorem ea {m : AddrMode} (hn : n = m.operandBytes) (s : State) : Ends raises jumps n s (s.ea m).2 := by
  subst hn
  rw [State.ea_frame]; exact { advance s m.operandBytes with }

theorem load {src : Source} (hn : n = src.operandBytes) (s : State) : Ends raises jumps n s (s.load src).2 := by
  subst hn
  rw [State.load_frame]; exact { advance s src.operandBytes with }

theorem unimplemented (s : State) (op : Byte) : Ends raises jumps (opcodeLength op - 1) s (s.unimplemented op) where
  unraised _ := ⟨rfl, rfl⟩
  pc _ _ := rfl

/-- What `f` does between the read and the write leaves PC and the fault fields alone (R425). -/
theorem rmw {f : Byte → State → Byte × State}
    (hf : ∀ {t} v, Ends raises jumps n s t → Ends raises jumps n s (f v t).2) {place : Place}
    (hn : n = place.source.operandBytes) : Ends raises jumps n s (s.rmw place f) := by
  cases place with
  | acc =>
    subst hn
    exact { hf s.a (refl s) with }
  | mem m => exact { hf (s.load (.mem m)).1 (load hn s) with }

theorem setA (h : Ends raises jumps n s t) (v : Byte) : Ends raises jumps n s (t.setA v) := { h with }
theorem setX (h : Ends raises jumps n s t) (v : Byte) : Ends raises jumps n s (t.setX v) := { h with }
theorem setY (h : Ends raises jumps n s t) (v : Byte) : Ends raises jumps n s (t.setY v) := { h with }
theorem setZ (h : Ends raises jumps n s t) (v : Byte) : Ends raises jumps n s (t.setZ v) := { h with }

theorem mem16 (h : Ends raises jumps n s t) (a : Word) : Ends raises jumps n s (t.mem16 a).2 := { h with }

theorem memWrite16 (h : Ends raises jumps n s t) (a w : Word) : Ends raises jumps n s (t.memWrite16 a w) := { h with }

theorem setFlag (h : Ends raises jumps n s t) (f : Flag) (v : Bool) : Ends raises jumps n s (t.setFlag f v) :=
  { h with }

theorem setNZ8 (h : Ends raises jumps n s t) (v : Byte) : Ends raises jumps n s (t.setNZ8 v) := { h with }

theorem setNZ16 (h : Ends raises jumps n s t) (w : Word) : Ends raises jumps n s (t.setNZ16 w) := { h with }

/-- An instruction that may write PC with a target, and raised no stack fault (R750, R780). -/
theorem jumped (hj : jumps = true) (hf : t.faulted = s.faulted) (hr : t.lastResult = s.lastResult) :
    Ends raises jumps n s t where
  unraised _ := ⟨hf, hr⟩
  pc hn := absurd hn (by simp [hj])

/-- An instruction that raised a stack fault (R432). -/
theorem raised (hr : raises = true) (t : State) (k : StackFaultKind) :
    Ends raises jumps n s (t.raiseStackFault k) where
  unraised hn := absurd hn (by simp [hr])
  pc _ hok := nomatch hok

/-- Of an instruction that may raise a stack fault and may write PC with a target nothing is said. -/
theorem unconstrained (hr : raises = true) (hj : jumps = true) (s t : State) : Ends raises jumps n s t where
  unraised hn := absurd hn (by simp [hr])
  pc hn := absurd hn (by simp [hj])

/-- A push ends away from the limit or where the overflow was raised (R430). -/
theorem push (h : Ends raises jumps n s t) (hr : raises = true) (v : Byte) :
    ∃ u, Ends raises jumps n s u ∧ (t.push v = .ok u ∨ t.push v = .error u) := by
  by_cases hlimit : t.sp = 0x00#8 ∧ t.cfg.stackLimit = .fault
  · exact ⟨_, raised hr _ _, .inr (State.push_overflow v hlimit)⟩
  · refine ⟨_, ?_, .inl (State.push_ok v hlimit)⟩
    exact { h with }

theorem push16 (h : Ends raises jumps n s t) (hr : raises = true) (w : Word) :
    ∃ u, Ends raises jumps n s u ∧ (t.push16 w = .ok u ∨ t.push16 w = .error u) := by
  obtain ⟨u, hu, hok | herr⟩ := h.push hr (highByte w)
  · simpa only [State.push16, hok] using hu.push hr (lowByte w)
  · exact ⟨u, hu, .inr (by rw [State.push16, herr])⟩

/-- A pull ends away from the limit or where the underflow was raised (R431). -/
theorem pull (h : Ends raises jumps n s t) (hr : raises = true) :
    ∃ u, Ends raises jumps n s u ∧ ((∃ v, t.pull = .ok (v, u)) ∨ t.pull = .error u) := by
  by_cases hlimit : t.sp = 0xFF#8 ∧ t.cfg.stackLimit = .fault
  · exact ⟨_, raised hr _ _, .inr (State.pull_underflow hlimit)⟩
  · refine ⟨_, ?_, .inl ⟨_, State.pull_ok hlimit⟩⟩
    exact { h with }

/-- An end of the instruction is one of the step: the operand fetch before it moves neither PC nor a fault (R407). -/
theorem of_fetchOperands {op : Byte} (h : Ends raises jumps n (s.fetchOperands op).2 t) : Ends raises jumps n s t := by
  rw [State.fetchOperands_frame] at h
  exact { h with }

end Ends

/-- If the meaning answers a next state, the instruction ends as `Ends` says. -/
def Concludes (raises jumps : Bool) (n : Nat) (s : State) (r : Result) : Prop :=
  ∀ t, r = .next t → Ends raises jumps n s t

section
variable {raises jumps : Bool} {n : Nat} {s : State}

theorem Ends.concludes {t : State} (h : Ends raises jumps n s t) : Concludes raises jumps n s (.next t) := by
  intro u hu
  cases hu
  exact h

theorem transfer_concludes {set : State → Byte → State}
    (hset : ∀ {t}, Ends raises jumps 0 s t → ∀ v, Ends raises jumps 0 s (set t v)) (v : Byte) :
    Concludes raises jumps 0 s (transfer set v s) := Ends.concludes { hset (.refl s) v with }

theorem load_concludes {set : State → Byte → State} {src : Source} (hn : n = src.operandBytes)
    (hset : ∀ {t}, Ends raises jumps n s t → ∀ v, Ends raises jumps n s (set t v)) :
    Concludes raises jumps n s (load set src s) := Ends.concludes { hset (.load hn s) (s.load src).1 with }

theorem store_concludes {m : AddrMode} (hn : n = m.operandBytes) (r : Byte) :
    Concludes raises jumps n s (store r m s) := Ends.concludes { Ends.ea hn s with }

theorem logical_concludes {src : Source} (hn : n = src.operandBytes) (f : Byte → Byte → Byte) :
    Concludes raises jumps n s (logical f src s) := Ends.concludes { Ends.load hn s with }

theorem ora_concludes {src : Source} (hn : n = src.operandBytes) : Concludes raises jumps n s (ora src s) :=
  logical_concludes hn _

theorem andA_concludes {src : Source} (hn : n = src.operandBytes) : Concludes raises jumps n s (andA src s) :=
  logical_concludes hn _

theorem eor_concludes {src : Source} (hn : n = src.operandBytes) : Concludes raises jumps n s (eor src s) :=
  logical_concludes hn _

theorem bitMemory_concludes {m : AddrMode} (hn : n = m.operandBytes) :
    Concludes raises jumps n s (bitMemory m s) := Ends.concludes { Ends.load (src := .mem m) hn s with }

theorem bitImmediate_concludes (v : Byte) : Concludes raises jumps 1 s (bitImmediate v s) := by
  rw [bitImmediate]
  split <;> exact Ends.concludes { Ends.advance s 1 with }

theorem adc_concludes {src : Source} (hn : n = src.operandBytes) : Concludes raises jumps n s (adc src s) :=
  Ends.concludes { Ends.load hn s with }

theorem sbc_concludes {src : Source} (hn : n = src.operandBytes) : Concludes raises jumps n s (sbc src s) :=
  Ends.concludes { Ends.load hn s with }

theorem compare_concludes {src : Source} (hn : n = src.operandBytes) (r : Byte) :
    Concludes raises jumps n s (compare r src s) := Ends.concludes { Ends.load hn s with }

theorem tsb_concludes {m : AddrMode} (hn : n = m.operandBytes) : Concludes raises jumps n s (tsb m s) :=
  (Ends.rmw (fun _ h => h.setFlag .z _) (place := .mem m) hn).concludes

theorem trb_concludes {m : AddrMode} (hn : n = m.operandBytes) : Concludes raises jumps n s (trb m s) :=
  (Ends.rmw (fun _ h => h.setFlag .z _) (place := .mem m) hn).concludes

theorem rmb_concludes (k : Nat) (b : Byte) : Concludes raises jumps 1 s (rmb k b s) :=
  (Ends.rmw (fun _ h => h) (place := .mem (.bp b)) rfl).concludes

theorem smb_concludes (k : Nat) (b : Byte) : Concludes raises jumps 1 s (smb k b s) :=
  (Ends.rmw (fun _ h => h) (place := .mem (.bp b)) rfl).concludes

theorem shift_concludes {place : Place} (hn : n = place.source.operandBytes) (f : Byte → Bool → ShiftOut) :
    Concludes raises jumps n s (shift f place s) :=
  (Ends.rmw (fun _ h => (h.setFlag .c _).setNZ8 _) hn).concludes

theorem asl_concludes {place : Place} (hn : n = place.source.operandBytes) :
    Concludes raises jumps n s (asl place s) := shift_concludes hn _

theorem lsr_concludes {place : Place} (hn : n = place.source.operandBytes) :
    Concludes raises jumps n s (lsr place s) := shift_concludes hn _

theorem rol_concludes {place : Place} (hn : n = place.source.operandBytes) :
    Concludes raises jumps n s (rol place s) := shift_concludes hn _

theorem ror_concludes {place : Place} (hn : n = place.source.operandBytes) :
    Concludes raises jumps n s (ror place s) := shift_concludes hn _

theorem asr_concludes {place : Place} (hn : n = place.source.operandBytes) :
    Concludes raises jumps n s (asr place s) := shift_concludes hn _

theorem inc_concludes {place : Place} (hn : n = place.source.operandBytes) :
    Concludes raises jumps n s (inc place s) := (Ends.rmw (fun _ h => h.setNZ8 _) hn).concludes

theorem dec_concludes {place : Place} (hn : n = place.source.operandBytes) :
    Concludes raises jumps n s (dec place s) := (Ends.rmw (fun _ h => h.setNZ8 _) hn).concludes

theorem shiftWordLeft_concludes (low : Bool) (w : Word) : Concludes raises jumps 2 s (shiftWordLeft low w s) :=
  (((((Ends.advance s 2).mem16 w).setFlag .c _).memWrite16 w _).setNZ16 _).concludes

theorem updateWord_concludes (f : Word → Word) (b : Byte) : Concludes raises jumps 1 s (updateWord f b s) :=
  ((((Ends.advance s 1).mem16 (zext b)).memWrite16 (zext b) _).setNZ16 _).concludes

theorem asw_concludes (w : Word) : Concludes raises jumps 2 s (asw w s) := shiftWordLeft_concludes _ w

theorem row_concludes (w : Word) : Concludes raises jumps 2 s (row w s) := shiftWordLeft_concludes _ w

theorem inw_concludes (b : Byte) : Concludes raises jumps 1 s (inw b s) := updateWord_concludes _ b

theorem dew_concludes (b : Byte) : Concludes raises jumps 1 s (dew b s) := updateWord_concludes _ b

theorem setFlag_concludes (f : Flag) (v : Bool) : Concludes raises jumps 0 s (.next (s.setFlag f v)) :=
  ((Ends.refl s).setFlag f v).concludes

theorem setSp_concludes (v : Byte) : Concludes raises jumps 0 s (.next (s.setSp v)) :=
  Ends.concludes { Ends.refl s with }

theorem brk_concludes : Concludes raises jumps 1 s (brk s) := Ends.concludes { Ends.advance s 1 with }

/-- TAB outside `IMPLEMENTED` has no operand byte to skip (R404, R660). -/
theorem tab_concludes : Concludes raises jumps 0 s (tab s) := by
  have hlen : opcodeLength 0x5B#8 - 1 = 0 := rfl
  rw [tab]
  split
  · exact (Ends.refl s).concludes
  · exact Ends.concludes (hlen ▸ Ends.unimplemented s 0x5B#8)

/-- TBA outside `IMPLEMENTED` has no operand byte to skip (R404, R661). -/
theorem tba_concludes : Concludes raises jumps 0 s (tba s) := by
  have hlen : opcodeLength 0x7B#8 - 1 = 0 := rfl
  rw [tba]
  split
  · exact transfer_concludes Ends.setA 0x00#8
  · exact Ends.concludes (hlen ▸ Ends.unimplemented s 0x7B#8)

theorem jmp_concludes (hj : jumps = true) (m : AddrMode) : Concludes raises jumps n s (jmp m s) :=
  Ends.concludes (.jumped hj (State.ea_snd_faulted s m) (State.ea_snd_lastResult s m))

theorem branch_concludes (hj : jumps = true) (d : Displacement) (cond : Bool) :
    Concludes raises jumps n s (branch d cond s) := by
  rw [branch_eq]
  cases d <;> cases cond <;> exact Ends.concludes (.jumped hj rfl rfl)

theorem branchOnBit_concludes (hj : jumps = true) (bit : Bool) (k : Nat) (b d : Byte) :
    Concludes raises jumps n s (branchOnBit bit k b d s) := by
  rw [branchOnBit_eq]
  split <;> exact Ends.concludes (.jumped hj rfl rfl)

theorem bbr_concludes (hj : jumps = true) (k : Nat) (b d : Byte) : Concludes raises jumps n s (bbr k b d s) :=
  branchOnBit_concludes hj _ k b d

theorem bbs_concludes (hj : jumps = true) (k : Nat) (b d : Byte) : Concludes raises jumps n s (bbs k b d s) :=
  branchOnBit_concludes hj _ k b d

/-- What `finish` answers is the state a push ended in, with or without a fault (R406, R432). -/
theorem finish_concludes {r : Except State State} (h : ∃ u, Ends raises jumps n s u ∧ (r = .ok u ∨ r = .error u)) :
    Concludes raises jumps n s (finish r) := by
  obtain ⟨u, hu, rfl | rfl⟩ := h
  · exact hu.concludes
  · exact hu.concludes

theorem pushByte_concludes (hr : raises = true) (v : Byte) : Concludes raises jumps 0 s (pushByte v s) :=
  finish_concludes ((Ends.refl s).push hr v)

theorem pushImmediateWord_concludes (hr : raises = true) (w : Word) :
    Concludes raises jumps 2 s (pushImmediateWord w s) := finish_concludes ((Ends.advance s 2).push16 hr w)

theorem pushMemoryWord_concludes (hr : raises = true) (w : Word) :
    Concludes raises jumps 2 s (pushMemoryWord w s) :=
  finish_concludes (((Ends.advance s 2).mem16 w).push16 hr _)

theorem pullRegister_concludes {set : State → Byte → State} (hr : raises = true)
    (hset : ∀ {t}, Ends raises jumps 0 s t → ∀ v, Ends raises jumps 0 s (set t v)) :
    Concludes raises jumps 0 s (pullRegister set s) := by
  obtain ⟨u, hu, ⟨v, hok⟩ | herr⟩ := (Ends.refl s).pull hr
  · rw [pullRegister, hok]; exact Ends.concludes { hset hu v with }
  · rw [pullRegister, herr]; exact hu.concludes

theorem pullFlags_concludes (hr : raises = true) : Concludes raises jumps 0 s (pullFlags s) := by
  obtain ⟨u, hu, ⟨v, hok⟩ | herr⟩ := (Ends.refl s).pull hr
  · rw [pullFlags, hok]; exact Ends.concludes { hu with }
  · rw [pullFlags, herr]; exact hu.concludes

/-- The calls and the returns push or pull and write PC with a target: nothing is said of how they end. -/
theorem concludes_of_raises_of_jumps (hr : raises = true) (hj : jumps = true) (r : Result) :
    Concludes raises jumps n s r := fun t _ => Ends.unconstrained hr hj s t

end

/-- Whether an opcode is listed among those that push or pull (R432). -/
def mayRaise (op : Byte) : Bool := stackOpcodes.contains op

/-- Whether an opcode is listed among those that may write PC with a target (R405). -/
def mayJump (op : Byte) : Bool := transferOpcodes.contains op

/-- The opcode of an instruction is the first byte of its encoding, and gives its length. -/
theorem Concludes.of_encode {i : Instr} {op : Byte} {rest : List Byte} {s : State}
    (he : encode i = op :: rest) (h : Concludes (mayRaise op) (mayJump op) (opcodeLength op - 1) s (exec i s)) :
    Concludes (mayRaise i.opcode) (mayJump i.opcode) (opcodeLength i.opcode - 1) s (exec i s) := by
  have hop : i.opcode = op := by rw [Instr.opcode, he, List.headD_cons]
  rwa [hop]

/-- Every instruction ends as the lists of opcodes that push or pull, and that transfer, say of its opcode. -/
theorem exec_concludes (i : Instr) (s : State) :
    Concludes (mayRaise i.opcode) (mayJump i.opcode) (opcodeLength i.opcode - 1) s (exec i s) := by
  cases i with (refine .of_encode rfl ?_; dsimp only [exec])
  | oraIndX | oraBp | oraImm | oraAbs | oraIndY | oraIndZ | oraBpX | oraAbsY | oraAbsX =>
    exact ora_concludes (by rfl)
  | andIndX | andBp | andImm | andAbs | andIndY | andIndZ | andBpX | andAbsY | andAbsX =>
    exact andA_concludes (by rfl)
  | eorIndX | eorBp | eorImm | eorAbs | eorIndY | eorIndZ | eorBpX | eorAbsY | eorAbsX =>
    exact eor_concludes (by rfl)
  | bitBp | bitAbs | bitBpX | bitAbsX => exact bitMemory_concludes (by rfl)
  | bitImm v => exact bitImmediate_concludes v
  | tsbBp | tsbAbs => exact tsb_concludes (by rfl)
  | trbBp | trbAbs => exact trb_concludes (by rfl)
  | rmb0 | rmb1 | rmb2 | rmb3 | rmb4 | rmb5 | rmb6 | rmb7 => exact rmb_concludes _ _
  | smb0 | smb1 | smb2 | smb3 | smb4 | smb5 | smb6 | smb7 => exact smb_concludes _ _
  | aslBp | aslA | aslAbs | aslBpX | aslAbsX => exact asl_concludes (by rfl)
  | lsrBp | lsrA | lsrAbs | lsrBpX | lsrAbsX => exact lsr_concludes (by rfl)
  | rolBp | rolA | rolAbs | rolBpX | rolAbsX => exact rol_concludes (by rfl)
  | rorBp | rorA | rorAbs | rorBpX | rorAbsX => exact ror_concludes (by rfl)
  | asrBp | asrA | asrBpX => exact asr_concludes (by rfl)
  | asw w => exact asw_concludes w
  | row w => exact row_concludes w
  | inw b => exact inw_concludes b
  | dew b => exact dew_concludes b
  | incA | incBp | incAbs | incBpX | incAbsX => exact inc_concludes (by rfl)
  | decA | decBp | decAbs | decBpX | decAbsX => exact dec_concludes (by rfl)
  | php | pha | phx | phy | phz => exact pushByte_concludes rfl _
  | phwImm w => exact pushImmediateWord_concludes rfl w
  | phwAbs w => exact pushMemoryWord_concludes rfl w
  | pla => exact pullRegister_concludes rfl Ends.setA
  | plx => exact pullRegister_concludes rfl Ends.setX
  | ply => exact pullRegister_concludes rfl Ends.setY
  | plz => exact pullRegister_concludes rfl Ends.setZ
  | plp => exact pullFlags_concludes rfl
  | txa | tya | tza | neg => exact transfer_concludes Ends.setA _
  | tax | tsx | inx | dex => exact transfer_concludes Ends.setX _
  | tay | tsy | iny | dey => exact transfer_concludes Ends.setY _
  | taz | inz | dez => exact transfer_concludes Ends.setZ _
  | txs | tys => exact setSp_concludes _
  | tab => exact tab_concludes
  | tba => exact tba_concludes
  | bplRel | bmiRel | bvcRel | bvsRel | bccRel | bcsRel | bneRel | beqRel | bruRel
  | bplWord | bmiWord | bvcWord | bvsWord | bccWord | bcsWord | bneWord | beqWord | bruWord =>
    exact branch_concludes rfl _ _
  | bbr0 | bbr1 | bbr2 | bbr3 | bbr4 | bbr5 | bbr6 | bbr7 => exact bbr_concludes rfl _ _ _
  | bbs0 | bbs1 | bbs2 | bbs3 | bbs4 | bbs5 | bbs6 | bbs7 => exact bbs_concludes rfl _ _ _
  | jmpAbs | jmpInd | jmpIndX => exact jmp_concludes rfl _
  | jsrAbs | jsrInd | jsrIndX | bsr | rts | rtn | rti => exact concludes_of_raises_of_jumps rfl rfl _
  | clc | sec | cli | sei | cld | sed | clv | cle | see => exact setFlag_concludes _ _
  | brk => exact brk_concludes
  | nop => exact (Ends.refl s).concludes
  | aug => exact (Ends.advance s 3).concludes
  | ldaIndX | ldaBp | ldaImm | ldaAbs | ldaIndY | ldaIndZ | ldaBpX | ldaAbsY | ldaAbsX | ldaSpY =>
    exact load_concludes (by rfl) Ends.setA
  | ldxImm | ldxBp | ldxAbs | ldxBpY | ldxAbsY => exact load_concludes (by rfl) Ends.setX
  | ldyImm | ldyBp | ldyAbs | ldyBpX | ldyAbsX => exact load_concludes (by rfl) Ends.setY
  | ldzImm | ldzAbs | ldzAbsX => exact load_concludes (by rfl) Ends.setZ
  | staIndX | staSpY | staBp | staAbs | staIndY | staIndZ | staBpX | staAbsY | staAbsX | stxBp | stxAbs | stxBpY
  | stxAbsY | styBp | styAbs | styAbsX | styBpX | stzBp | stzBpX | stzAbs | stzAbsX =>
    exact store_concludes (by rfl) _
  | adcIndX | adcBp | adcImm | adcAbs | adcIndY | adcIndZ | adcBpX | adcAbsY | adcAbsX =>
    exact adc_concludes (by rfl)
  | sbcIndX | sbcBp | sbcImm | sbcAbs | sbcIndY | sbcIndZ | sbcBpX | sbcAbsY | sbcAbsX =>
    exact sbc_concludes (by rfl)
  | cmpIndX | cmpBp | cmpImm | cmpAbs | cmpIndY | cmpIndZ | cmpBpX | cmpAbsY | cmpAbsX | cpxImm | cpxBp | cpxAbs
  | cpyImm | cpyBp | cpyAbs | cpzImm | cpzBp | cpzAbs => exact compare_concludes (by rfl) _

end Sys2Proof.Machine
end

section
/-! PROOFS. The step: its preconditions, the unimplemented opcode, the instruction run, and how a step ends (R400 to
R407). -/

namespace Sys2Proof.Machine

/-- The host's call of a step that answers a fault leaves the state as it was (R403). -/
theorem stepCall_of_fault {s : State} {f : Fault} (h : step s = .fault f) : s.stepCall = (.stopped f, s) := by
  rw [State.stepCall, h]

/-- Settles O6: a rejected step answers its fault before the fetch. -/
theorem stepPreconditions : Obligations.StepPreconditions := fun _ =>
  ⟨fun hb => ⟨step_noMemory hb, stepCall_of_fault (step_noMemory hb)⟩,
    fun hb hf => ⟨step_halted hb hf, stepCall_of_fault (step_halted hb hf)⟩⟩

/-- The fetch of the opcode is the first port operation of a step (R401). -/
@[simp] theorem State.prologue_portOps (s : State) : s.prologue.portOps = [.read s.pc (s.portByte s.pc)] := rfl

/-- Settles O7: the step is the unimplemented-opcode rule after the fetch of the opcode. -/
theorem unimplementedOpcodeStep : Obligations.UnimplementedOpcodeStep := by
  intro s hb hf hi
  exact ⟨_, step_unimplemented hb hf hi, s.prologue_unimplemented_pc _, s.prologue_cyc,
    s.prologue_unimplemented_diag _, s.prologue_portOps, s.prologue_lastResult, hf, frame_prologue_unimplemented s _⟩

/-! The operand fetch reads as many bytes as the opcode map's entry takes (R207, R407). -/

/-- The bytes a step reads for the instruction an entry makes: its opcode and the operand bytes of the entry. -/
theorem opcodeMap_map_bytesRead (b1 b2 : Byte) :
    opcodeMap.map (List.map fun r => bytesRead (r.build b1 b2)) =
      opcodeMap.map (List.map fun r => r.bytesRead + 1) := rfl

theorem bytesRead_opcodeRow_build (op b1 b2 : Byte) :
    bytesRead ((opcodeRow op).build b1 b2) = (opcodeRow op).bytesRead + 1 := by
  obtain ⟨rows, hrows, hrow⟩ := opcodeRow_mem op
  have hmap := List.map_inj_left.mp (opcodeMap_map_bytesRead b1 b2) rows hrows
  exact List.map_inj_left.mp hmap _ hrow

theorem Row.bytesRead_lt_length (r : Row) : r.bytesRead < r.length := by cases r <;> simp [Row.bytesRead, Row.length]

section
variable (s : State)

theorem State.afterFetch_one : s.afterFetch 1 = s.afterRead s.pc :=
  congrArg s.afterRead (BitVec.add_zero s.pc)

theorem State.afterFetch_two : s.afterFetch 2 = (s.afterRead s.pc).afterRead (s.pc + 1#16) := by
  rw [← State.afterFetch_one]; rfl

theorem State.afterFetch_three :
    s.afterFetch 3 = ((s.afterRead s.pc).afterRead (s.pc + 1#16)).afterRead (s.pc + 1#16 + 1#16) := by
  rw [← State.afterFetch_two, BitVec.add_assoc]; rfl

theorem State.fetched_zero : s.fetched 0 = s.portByte s.pc := congrArg s.portByte (BitVec.add_zero s.pc)

theorem State.fetched_one : s.fetched 1 = (s.afterRead s.pc).portByte (s.pc + 1#16) := by
  rw [← State.afterFetch_one]; rfl

theorem State.fetched_two :
    s.fetched 2 = ((s.afterRead s.pc).afterRead (s.pc + 1#16)).portByte (s.pc + 1#16 + 1#16) := by
  rw [← State.afterFetch_two, BitVec.add_assoc]; rfl

/-- After the fetch of the opcode the operand bytes are the next ones read at PC, in address order (R402, R407): the
instruction is made of them, the port is as after all those reads, nothing else has changed. -/
theorem State.prologue_fetchOperands {op b1 b2 : Byte}
    (h1 : 1 ≤ (opcodeRow op).bytesRead → b1 = s.beginStep.fetched 1)
    (h2 : 2 ≤ (opcodeRow op).bytesRead → b2 = s.beginStep.fetched 2) :
    s.prologue.fetchOperands op = ((opcodeRow op).build b1 b2, { s.prologue with
      ioDraws := (s.beginStep.afterFetch ((opcodeRow op).bytesRead + 1)).ioDraws
      portOps := (s.beginStep.afterFetch ((opcodeRow op).bytesRead + 1)).portOps }) := by
  unfold State.fetchOperands
  cases hrow : opcodeRow op with rw [hrow] at h1 h2
  | bare | skip => rw [Row.bytesRead, State.afterFetch_one]; rfl
  | byte mk =>
    rw [h1 (Nat.le_refl 1), State.fetched_one, Row.bytesRead, State.afterFetch_two]
    rfl
  | word mk | bytes mk =>
    rw [h1 (Nat.le_succ 1), h2 (Nat.le_refl 2), State.fetched_one, State.fetched_two, Row.bytesRead,
      State.afterFetch_three]
    rfl

/-- Settles O5: the operand bytes the step reads are those of the instruction decoded, and the entry of its opcode makes
the instruction of them. -/
theorem stepRunsTheDecodedInstruction : Obligations.StepRunsTheDecodedInstruction := by
  intro s i bytes rest hb hf hi hdecode hbytes
  obtain ⟨op, operands, rfl, hlen, rfl⟩ := decode_eq_ok_iff.mp hdecode
  have hop := opcodeRow_build_opcode op (operands.getD 0 0#8) (operands.getD 1 0#8)
  rw [bytesRead_opcodeRow_build] at hbytes ⊢
  rw [Instr.wellFormed, hop] at hi
  have hfirst : s.portByte s.pc = op := by
    have hzero := hbytes 0 (Nat.succ_pos _)
    rw [State.fetched_zero] at hzero
    exact (Option.some.inj hzero).symm
  have hoperand (k : Nat) (hk : k + 1 ≤ (opcodeRow op).bytesRead) :
      operands.getD k 0#8 = s.beginStep.fetched (k + 1) := by
    have hown : k < operands.length := by have := Row.bytesRead_lt_length (opcodeRow op); omega
    have hbyte := hbytes (k + 1) (Nat.succ_lt_succ hk)
    rw [List.cons_append, List.getElem?_cons_succ, List.getElem?_append_left hown] at hbyte
    rw [List.getD_eq_getElem?_getD, hbyte, Option.getD_some]
  rw [step_implemented hb hf (by rw [hfirst]; exact hi), hfirst, State.prologue_fetchOperands s (hoperand 0) (hoperand 1)]
  simp only [hop, State.prologue, hfirst]
  rfl

end

/-! How a step ends. -/

/-- With a port bound and no stack fault pending every step answers a next state (R1008). -/
theorem step_answers {s : State} (hb : s.bound = true) (hf : s.faulted = false) : ∃ t, step s = .next t := by
  cases hi : s.cfg.implements (s.portByte s.pc)
  · exact ⟨_, step_unimplemented hb hf hi⟩
  · have hop := s.prologue.fetchOperands_opcode (s.portByte s.pc)
    have hcfg : (s.prologue.fetchOperands (s.portByte s.pc)).2.cfg = s.cfg := by rw [State.fetchOperands_frame]; rfl
    obtain ⟨t, hexec, -⟩ := exec_answers (s.prologue.fetchOperands (s.portByte s.pc)).1
      (s.prologue.fetchOperands (s.portByte s.pc)).2 (by rw [hop, hcfg, hi])
    exact ⟨t, (step_implemented hb hf hi).trans hexec⟩

/-- Whether a step runs an opcode of `IMPLEMENTED` that pushes or pulls (R432). -/
def State.stepMayRaise (s : State) : Bool := s.cfg.implements (s.portByte s.pc) && mayRaise (s.portByte s.pc)

/-- Whether a step runs an opcode of `IMPLEMENTED` that may write PC with a target (R405). -/
def State.stepMayJump (s : State) : Bool := s.cfg.implements (s.portByte s.pc) && mayJump (s.portByte s.pc)

/-- A step ends as its instruction, and the unimplemented-opcode rule as an instruction that neither raises a fault nor
transfers (R404). -/
theorem step_ends {s t : State} (h : step s = .next t) :
    Ends s.stepMayRaise s.stepMayJump (opcodeLength (s.portByte s.pc) - 1) s.prologue t := by
  obtain ⟨-, -, ⟨hi, rfl⟩ | ⟨hi, hexec⟩⟩ := step_next h
  · exact Ends.unimplemented _ _
  · have hends := exec_concludes _ _ t hexec
    rw [State.fetchOperands_opcode] at hends
    rw [State.stepMayRaise, State.stepMayJump, hi, Bool.true_and, Bool.true_and]
    exact hends.of_fetchOperands

/-- PC past the opcode and past the operand bytes is PC past the instruction (R307). -/
theorem State.prologue_pc_add (s : State) (op : Byte) :
    s.prologue.pc + BitVec.ofNat 16 (opcodeLength op - 1) = s.pc + BitVec.ofNat 16 (opcodeLength op) :=
  s.prologue_unimplemented_pc op

/-- Settles O10: a step that may not jump ends with PC past its operand bytes. -/
theorem stepAdvancesPcByTheLength : Obligations.StepAdvancesPcByTheLength := by
  intro s t h hok hop
  have hstay : s.stepMayJump = false := by
    obtain hlist | hi := hop
    · simp [State.stepMayJump, mayJump, hlist]
    · simp [State.stepMayJump, hi]
  rw [(step_ends h).pc hstay hok, State.prologue_pc_add]

/-- A step returns Ok or one of the two stack faults of an instruction (R432). -/
theorem StepResult.eq_stackFault {r : StepResult} (h : r ≠ .ok) :
    r = .stackFault .overflow ∨ r = .stackFault .underflow := by
  cases r with
  | ok => exact absurd rfl h
  | stackFault k =>
    cases k with
    | overflow => exact .inl rfl
    | underflow => exact .inr rfl

/-- Settles O8: a next state is answered; what the instruction did to CYC and FAULTED is its effect, and only a step
that may raise a stack fault ends with one. -/
theorem everyStepCompletes : Obligations.EveryStepCompletes := by
  intro s hb hf
  obtain ⟨t, h⟩ := step_answers hb hf
  have heffect := step_effect h
  refine ⟨t, h, heffect.cyc, ?_⟩
  obtain ⟨hfaulted, hresult⟩ | ⟨hlimit, hfaulted, hresult⟩ := heffect.fault
  · exact .inl ⟨hresult, hfaulted.trans hf⟩
  · have hraises : s.stepMayRaise = true := by
      by_contra hn
      exact hresult ((step_ends h).unraised (Bool.eq_false_iff.mpr hn)).2
    obtain ⟨hi, hop⟩ := Bool.and_eq_true_iff.mp hraises
    exact .inr ⟨StepResult.eq_stackFault hresult, hfaulted, hlimit, hi, List.contains_iff_mem.mp hop⟩

end Sys2Proof.Machine
end

section
/-! PROOFS. A call and the return from it (R434, R781 to R783): a word pushed is the word pulled. -/

namespace Sys2Proof.Machine

/-- No two consecutive bytes of the stack page have one address (R433). -/
theorem stackAddr_ne_pred (sp : Byte) : stackAddr sp ≠ stackAddr (sp - 1#8) := by
  simp only [stackAddr, Config.stackBase, zext]
  bv_omega

/-- The state after a word is pushed where no limit is met, high byte first (R205, R430, R434). -/
def State.pushed16 (s : State) (w : Word) : State :=
  (((s.memWrite (stackAddr s.sp) (highByte w)).setSp (s.sp - 1#8)).memWrite (stackAddr (s.sp - 1#8))
    (lowByte w)).setSp (s.sp - 1#8 - 1#8)

section
variable {s : State} {w : Word}

/-- With room for two bytes neither push of a word meets the limit (R430). -/
theorem State.push16_eq_pushed16 (h : s.canPush 2) (w : Word) : s.push16 w = .ok (s.pushed16 w) := by
  refine State.push16_ok w fun hlimit => ?_
  have hroom := h hlimit
  constructor <;> bv_omega

theorem State.pushed16_read (s : State) (w : Word) (b : Word) :
    (s.pushed16 w).mem.read b.toNat = if b = stackAddr (s.sp - 1#8) then lowByte w
      else if b = stackAddr s.sp then highByte w else s.mem.read b.toNat := by
  simp only [State.pushed16, State.setSp_mem, State.memWrite_mem, Memory.read_write_word]

/-- The state after the two bytes up to the one at `StackAddr(sp)` are pulled (R431). -/
def State.pulledTo (s : State) (sp : Byte) : State :=
  (((s.setSp (sp - 1#8)).afterRead (stackAddr (sp - 1#8))).setSp sp).afterRead (stackAddr sp)

/-- On a stack page of plain RAM, with SP two below `sp`, a pull answers the word stacked there (R431). -/
theorem State.pull16_of_stacked {sp : Byte} (hsp : s.sp = sp - 1#8 - 1#8)
    (hroom : s.cfg.stackLimit = .fault → 2 ≤ sp.toNat) (hram : s.stackIsRam)
    (hhigh : s.mem.read (stackAddr sp).toNat = highByte w)
    (hlow : s.mem.read (stackAddr (sp - 1#8)).toNat = lowByte w) : s.pull16 = .ok (w, s.pulledTo sp) := by
  have hone : s.sp + 1#8 = sp - 1#8 := by rw [hsp, BitVec.sub_add_cancel]
  have htwo : sp - 1#8 + 1#8 = sp := BitVec.sub_add_cancel sp 1#8
  obtain ⟨t, hpull, rfl⟩ := State.pull16_ok (s := s) fun hlimit => by
    have := hroom hlimit
    rw [hone, hsp]
    constructor <;> bv_omega
  have hlo : s.portByte (stackAddr (sp - 1#8)) = lowByte w := (State.portByte_of_not_io (hram _)).trans hlow
  have hhi : ((s.setSp (sp - 1#8)).afterRead (stackAddr (sp - 1#8))).portByte (stackAddr sp) = highByte w := by
    have hio : ((s.setSp (sp - 1#8)).afterRead (stackAddr (sp - 1#8))).isIo (stackAddr sp) = false := hram sp
    exact (State.portByte_of_not_io hio).trans hhigh
  rw [hpull, hone, htwo, hlo, hhi, wordOf_high_low]
  rfl

end

theorem call_of_push16 {s t : State} {target : Word} (h : s.push16 (s.pc - 1#16) = .ok t) :
    call target s = .next (t.setPc target) := by rw [call, h]

theorem rts_of_pull16 {s t : State} {w : Word} (h : s.pull16 = .ok (w, t)) :
    rts s = .next (t.setPc (w + 1#16)) := by rw [rts, h]

/-- A call with room for two bytes pushes the address of its last byte; a return executed with the memory and SP it left
pulls that address and adds 1 (R434, R781, R783). -/
theorem call_then_rts {v : State} (hroom : v.canPush 2) (hram : v.stackIsRam) (target : Word) :
    ∃ t, call target v = .next t ∧
      ∀ q : Word, ∃ u, rts (t.setPc q) = .next u ∧ u.pc = v.pc ∧ u.sp = v.sp ∧ Completed v u ∧
        Frame v u [] [] [stackAddr v.sp, stackAddr (v.sp - 1#8)] := by
  have hread := State.pushed16_read v (v.pc - 1#16)
  refine ⟨_, call_of_push16 (State.push16_eq_pushed16 hroom _), fun q => ?_⟩
  have hpull : (((v.pushed16 (v.pc - 1#16)).setPc target).setPc q).pull16 = .ok (v.pc - 1#16, _) :=
    State.pull16_of_stacked (sp := v.sp) (by simp [State.pushed16]) (by simpa [State.pushed16, State.canPush] using hroom)
      (by simpa [State.stackIsRam, State.pushed16] using hram) (by simp [hread, stackAddr_ne_pred]) (by simp [hread])
  refine ⟨_, rts_of_pull16 hpull, ?_, ?_, ?_, ?_⟩
  · simp
  · simp [State.pulledTo]
  · simp [Completed, State.pulledTo, State.pushed16]
  · constructor
    case regs => intro r _; cases r <;> simp [State.reg, State.pulledTo, State.pushed16]
    case memory =>
      intro b hb
      obtain ⟨hfirst, hsecond⟩ : b ≠ stackAddr v.sp ∧ b ≠ stackAddr (v.sp - 1#8) := by simpa using hb
      simp [State.pulledTo, hread, hfirst, hsecond]
    all_goals simp [State.pulledTo, State.pushed16]

/-- Reading the target of a call moves PC past the two operand bytes and makes port reads; nothing else changes
(R781, R782). -/
theorem callForms_operand {w : Word} {f : Form (State → Word × State)} (hf : f ∈ callForms w) (s : State) :
    ∃ target draws ops,
      f.operand s = (target, { s with pc := s.pc + 2#16, ioDraws := draws, portOps := ops }) := by
  simp only [callForms, List.mem_cons, List.not_mem_nil, or_false] at hf
  rcases hf with rfl | rfl | rfl | rfl <;> exact ⟨_, _, _, rfl⟩

/-- Settles O44: the operand bytes and the pointer are read before the push, and leave SP and memory as they were. -/
theorem callThenReturn : Obligations.CallThenReturn := by
  intro w s hroom hram f hf
  obtain ⟨-, hexec⟩ := callForms_exec s w f hf
  obtain ⟨target, draws, ops, hread⟩ := callForms_operand hf s
  rw [hread] at hexec
  obtain ⟨t, hcall, hreturn⟩ :=
    call_then_rts (v := { s with pc := s.pc + 2#16, ioDraws := draws, portOps := ops }) hroom hram target
  refine ⟨t, hexec.trans hcall, fun q => ?_⟩
  obtain ⟨u, hrts, hpc, hsp, hcompleted, hframe⟩ := hreturn q
  exact ⟨u, hrts, hpc, hsp, hcompleted, { hframe with }⟩

end Sys2Proof.Machine
end

section
/-! PROOFS. The logical instructions (41_logical.md): reading an operand and writing one byte each keep all else. -/

namespace Sys2Proof.Machine

/-! One more operation of the instruction, after those that led from `s` to `t`: the frame lists what it writes. -/

namespace Frame

variable {s t : State} {regs : List Reg} {flags : List Flag} {stored : List Word}

/-- Reading an operand changes no register, flag or byte of memory (R425). -/
theorem load (s : State) (src : Source) : Frame s (s.load src).2 regs flags stored where
  regs r _ := by cases r <;> simp [State.reg]
  flags f _ := State.load_snd_flag s src f
  memory _ _ := by rw [State.load_snd_mem]
  cyc := State.load_snd_cyc s src
  bound := State.load_snd_bound s src
  io := State.load_snd_io s src
  cfg := State.load_snd_cfg s src
  psg := State.load_snd_psg s src

theorem setA (h : Frame s t regs flags stored) (ha : .a ∈ regs) (v : Byte) : Frame s (t.setA v) regs flags stored where
  regs r hr := by
    have hkept := h.regs r hr
    cases r
    case a => exact absurd ha hr
    all_goals exact hkept
  flags := h.flags
  memory := h.memory
  cyc := h.cyc
  bound := h.bound
  io := h.io
  cfg := h.cfg
  psg := h.psg

/-- The other seven flags keep their values (R114). -/
theorem setFlag (h : Frame s t regs flags stored) {g : Flag} (hg : g ∈ flags) (v : Bool) :
    Frame s (t.setFlag g v) regs flags stored where
  regs r hr := by
    have hkept := h.regs r hr
    cases r <;> exact hkept
  flags f hf := by
    have hne : f ≠ g := fun e => hf (e ▸ hg)
    rw [State.setFlag_flag, if_neg hne, h.flags f hf]
  memory := h.memory
  cyc := h.cyc
  bound := h.bound
  io := h.io
  cfg := h.cfg
  psg := h.psg

theorem setNZ8 (h : Frame s t regs flags stored) (hn : .n ∈ flags) (hz : .z ∈ flags) (v : Byte) :
    Frame s (t.setNZ8 v) regs flags stored := (h.setFlag hz _).setFlag hn _

/-- Every other byte of memory keeps its value (R203). -/
theorem memWrite (h : Frame s t regs flags stored) {a : Word} (ha : a ∈ stored) (v : Byte) :
    Frame s (t.memWrite a v) regs flags stored where
  regs r hr := by
    have hkept := h.regs r hr
    cases r <;> exact hkept
  flags := h.flags
  memory b hb := by
    have hne : b ≠ a := fun e => hb (e ▸ ha)
    rw [State.memWrite_mem, Memory.read_write_word, if_neg hne, h.memory b hb]
  cyc := h.cyc
  bound := h.bound
  io := h.io
  cfg := h.cfg
  psg := h.psg

/-- What is framed without a store is framed with one allowed. -/
theorem storing (h : Frame s t regs flags []) (stored : List Word) : Frame s t regs flags stored :=
  { h with memory := fun b _ => h.memory b List.not_mem_nil }

end Frame

/-! After the operand is read, writes of registers and flags leave the port's record, PC and the outcome alone. -/

namespace ReadOperand

variable {s t : State} {src : Source}

theorem load (s : State) (src : Source) : ReadOperand s (s.load src).2 src :=
  ⟨⟨State.load_snd_faulted s src, State.load_snd_lastResult s src, State.load_snd_diag s src⟩, rfl,
    (List.append_nil _).symm, rfl⟩

theorem setA (h : ReadOperand s t src) (v : Byte) : ReadOperand s (t.setA v) src := h

theorem setFlag (h : ReadOperand s t src) (g : Flag) (v : Bool) : ReadOperand s (t.setFlag g v) src := h

theorem setNZ8 (h : ReadOperand s t src) (v : Byte) : ReadOperand s (t.setNZ8 v) src := h

/-- A read-modify-write of memory ends with one write at the address the operand was read from (R425). -/
theorem memWrite {m : AddrMode} {flags : List Flag} (h : ReadOperand s t (.mem m)) (hframe : Frame s t [] flags [])
    (r : Byte) : StoredAt s (t.memWrite (s.ea m).1 r) (.mem m) flags r := by
  obtain ⟨hcompleted, hpc, hops, hdraws⟩ := h
  refine ⟨hcompleted, hpc, by simp, (hframe.storing _).memWrite List.mem_cons_self r, ?_, hdraws⟩
  rw [State.memWrite_portOps, hops, List.append_nil, Place.source]

end ReadOperand

/-- SetNZ8 sets N and Z as the byte says (R17). -/
theorem nz8_setNZ8 (s : State) (v : Byte) : NZ8 (s.setNZ8 v) v := by
  rw [NZ8, State.setNZ8_flag_z, State.setNZ8_flag_n, beq_iff_eq]
  exact ⟨Iff.rfl, BitVec.msb_eq_getLsbD_last v⟩

/-! ORA, AND, EOR (R450 to R452). -/

theorem logical_result (f : Byte → Byte → Byte) (src : Source) (s : State) :
    ∃ t, logical f src s = .next t ∧ t.a = f s.a (s.load src).1 ∧ NZ8 t t.a ∧ ReadOperand s t src ∧
      Frame s t [.a] [.n, .z] [] :=
  ⟨_, logical_eq s f src, rfl, nz8_setNZ8 _ _, ((ReadOperand.load s src).setA _).setNZ8 _,
    ((Frame.load s src).setA (by simp) _).setNZ8 (by simp) (by simp) _⟩

/-- Settles O23: each form runs its logical operation on its operand. -/
theorem logicalResult : Obligations.LogicalResult := by
  intro v b w s g hg f hf
  simp only [List.mem_cons, List.not_mem_nil, or_false] at hg
  have hrun : f.instr.opcode = f.opcode ∧ exec f.instr s = logical g.2 f.operand s := by
    rcases hg with rfl | rfl | rfl
    · exact oraForms_exec s v b w f hf
    · exact andForms_exec s v b w f hf
    · exact eorForms_exec s v b w f hf
  obtain ⟨hop, hexec⟩ := hrun
  exact ⟨hop, hexec ▸ logical_result g.2 f.operand s⟩

/-! BIT (R453, R454). -/

/-- The flags BIT sets from memory: Z from A AND the operand, N and V from the operand's own bits 7 and 6 (R453). -/
def State.setBit (s : State) (a v : Byte) : State :=
  ((s.setFlag .z ((a &&& v) == 0#8)).setFlag .n (v.getLsbD 7)).setFlag .v (v.getLsbD 6)

section
variable {s t : State} {src : Source}

@[simp] theorem State.setBit_flag_z (s : State) (a v : Byte) : (s.setBit a v).flag .z = ((a &&& v) == 0#8) := by
  simp [State.setBit]

@[simp] theorem State.setBit_flag_n (s : State) (a v : Byte) : (s.setBit a v).flag .n = v.getLsbD 7 := by
  simp [State.setBit]

@[simp] theorem State.setBit_flag_v (s : State) (a v : Byte) : (s.setBit a v).flag .v = v.getLsbD 6 := by
  simp [State.setBit]

theorem ReadOperand.setBit (h : ReadOperand s t src) (a v : Byte) : ReadOperand s (t.setBit a v) src := h

theorem Frame.setBit (h : Frame s t [] [.n, .v, .z] []) (a v : Byte) : Frame s (t.setBit a v) [] [.n, .v, .z] [] :=
  ((h.setFlag (by simp) _).setFlag (by simp) _).setFlag (by simp) _

end

theorem bitMemory_setBit (m : AddrMode) (s : State) :
    bitMemory m s = .next ((s.load (.mem m)).2.setBit s.a (s.load (.mem m)).1) := bitMemory_eq s m

/-- Without `BIT_IMM_NV`, BIT # writes Z alone (R454). -/
theorem bitImmediate_of_keeps {s : State} (h : s.cfg.bitImmNV = false) (v : Byte) :
    bitImmediate v s = .next ((s.load (.imm v)).2.setFlag .z ((s.a &&& v) == 0#8)) :=
  if_neg (by simp [h])

/-- With `BIT_IMM_NV`, BIT # sets the flags the memory forms set (R454). -/
theorem bitImmediate_of_writes {s : State} (h : s.cfg.bitImmNV = true) (v : Byte) :
    bitImmediate v s = .next ((s.load (.imm v)).2.setBit s.a v) := if_pos h

/-- Settles O24: the memory forms alike; BIT # by the two values of `BIT_IMM_NV`. -/
theorem bitTestResult : Obligations.BitTestResult := by
  refine ⟨fun b w s f hf => ?_, fun v s => ⟨rfl, ?_⟩⟩
  · obtain ⟨hop, hexec⟩ := bitForms_exec s b w f hf
    refine ⟨hop, _, hexec.trans (bitMemory_setBit f.operand s), ?_, State.setBit_flag_n _ _ _,
      State.setBit_flag_v _ _ _, (ReadOperand.load s _).setBit _ _, (Frame.load s _).setBit _ _⟩
    rw [State.setBit_flag_z, beq_iff_eq]
  · cases hcfg : s.cfg.bitImmNV
    · refine ⟨_, bitImmediate_of_keeps hcfg v, ?_, fun _ => ?_, nofun, (ReadOperand.load s _).setFlag _ _,
        (Frame.load s _).setFlag (by simp) _⟩
      · simp
      · simp
    · refine ⟨_, bitImmediate_of_writes hcfg v, ?_, nofun,
        fun _ => ⟨State.setBit_flag_n _ _ _, State.setBit_flag_v _ _ _⟩, (ReadOperand.load s _).setBit _ _,
        (Frame.load s _).setBit _ _⟩
      rw [State.setBit_flag_z, beq_iff_eq]

/-! TSB and TRB (R455, R456). -/

/-- What TSB and TRB share: the byte read is replaced by `r`, and Z is set from `r`. -/
theorem setZero_memWrite_result (s : State) (m : AddrMode) (r : Byte) :
    let t := ((s.load (.mem m)).2.setFlag .z (r == 0#8)).memWrite (s.ea m).1 r
    (t.flag .z = true ↔ r = 0x00#8) ∧ StoredAt s t (.mem m) [.z] r :=
  ⟨by simp, ((ReadOperand.load s (.mem m)).setFlag _ _).memWrite ((Frame.load s (.mem m)).setFlag (by simp) _) r⟩

/-- Settles O25: each form is one read, Z from the value computed, and one write of it. -/
theorem testAndSetResetResult : Obligations.TestAndSetResetResult := by
  intro b w s g hg f hf
  simp only [List.mem_cons, List.not_mem_nil, or_false] at hg
  rcases hg with rfl | rfl
  · obtain ⟨hop, hexec⟩ := tsbForms_exec s b w f hf
    exact ⟨hop, _, hexec.trans (tsb_eq s f.operand), setZero_memWrite_result s f.operand _⟩
  · obtain ⟨hop, hexec⟩ := trbForms_exec s b w f hf
    exact ⟨hop, _, hexec.trans (trb_eq s f.operand), setZero_memWrite_result s f.operand _⟩

end Sys2Proof.Machine
end

section
/-! PROOFS. Shifts and rotates (42_shift_rotate.md): the operand's place, the result as a number, the word forms. -/

namespace Sys2Proof.Machine

/-- A read-modify-write of the accumulator ends with the write of A (R425, R429). -/
theorem ReadOperand.storedAt_setA {s t : State} {flags : List Flag} (h : ReadOperand s t .acc)
    (hframe : Frame s t [.a] flags []) (r : Byte) : StoredAt s (t.setA r) .acc flags r := by
  obtain ⟨hcompleted, hpc, hport⟩ := h.setA r
  exact ⟨hcompleted, hpc, rfl, hframe.setA List.mem_cons_self r, hport⟩

/-! The store that ends a read-modify-write, of A or of a byte of memory, writes no flag. -/

theorem NZ8.setA {t : State} {v : Byte} (h : NZ8 t v) (r : Byte) : NZ8 (t.setA r) v := h

theorem NZ8.memWrite {t : State} {v : Byte} (h : NZ8 t v) (a : Word) (r : Byte) : NZ8 (t.memWrite a r) v := h

/-! The flags of a one-bit shift (R500 to R504). -/

/-- C is the bit shifted out, then N and Z are set from the result. -/
def State.setShift (s : State) (o : ShiftOut) : State := (s.setFlag .c o.carry).setNZ8 o.value

theorem State.setShift_flag_c (s : State) (o : ShiftOut) : (s.setShift o).flag .c = o.carry := by
  simp [State.setShift, State.setNZ8_flag]

theorem nz8_setShift (s : State) (o : ShiftOut) : NZ8 (s.setShift o) o.value := nz8_setNZ8 _ _

section
variable {s t : State}

theorem ReadOperand.setShift {src : Source} (h : ReadOperand s t src) (o : ShiftOut) :
    ReadOperand s (t.setShift o) src := h

theorem Frame.setShift {regs : List Reg} (h : Frame s t regs [.n, .z, .c] []) (o : ShiftOut) :
    Frame s (t.setShift o) regs [.n, .z, .c] [] := (h.setFlag (by simp) _).setNZ8 (by simp) (by simp) _

end

/-- A one-bit shift in every mode: the byte stored and its flags are what the operand and the old C give. -/
theorem shift_result (f : Byte → Bool → ShiftOut) (place : Place) (s : State) :
    let o := f (s.load place.source).1 (s.flag .c)
    ∃ t, shift f place s = .next t ∧ t.flag .c = o.carry ∧ NZ8 t o.value ∧ StoredAt s t place [.n, .z, .c] o.value := by
  intro o
  have hread : ReadOperand s ((s.load place.source).2.setShift o) place.source := (ReadOperand.load s _).setShift o
  have hcarry := (s.load place.source).2.setShift_flag_c o
  have hnz := nz8_setShift (s.load place.source).2 o
  cases place with
  | acc =>
    exact ⟨_, shift_acc_eq s f, (State.setA_flag _ _ _).trans hcarry, hnz.setA _,
      hread.storedAt_setA ((Frame.load s _).setShift o) _⟩
  | mem m =>
    exact ⟨_, shift_mem_eq s f m, (State.memWrite_flag _ _ _ _).trans hcarry, hnz.memWrite _ _,
      hread.memWrite ((Frame.load s _).setShift o) _⟩

/-! The results as numbers (R500 to R506). -/

/-- A left shift, or rotate, doubles the value and adds the bit that enters, modulo 2^n. -/
theorem shiftLeft_or_ofBool {n : Nat} (v : BitVec n) (c : Bool) :
    (v <<< 1) ||| (BitVec.ofBool c).setWidth n = BitVec.ofNat n (v.toNat * 2 + c.toNat) := by
  have hdisjoint : (v <<< 1) &&& (BitVec.ofBool c).setWidth n = 0#n := by
    ext i hi
    cases i <;> simp
  have hshift : v <<< 1 = BitVec.ofNat n (v.toNat * 2) :=
    BitVec.eq_of_toNat_eq (by rw [BitVec.toNat_shiftLeft, Nat.shiftLeft_eq, BitVec.toNat_ofNat])
  have hbit : (BitVec.ofBool c).setWidth n = BitVec.ofNat n c.toNat :=
    BitVec.eq_of_toNat_eq (by rw [BitVec.toNat_setWidth, BitVec.toNat_ofBool, BitVec.toNat_ofNat])
  rw [← BitVec.add_eq_or_of_and_eq_zero _ _ hdisjoint, hshift, hbit, BitVec.ofNat_add]

theorem aslByte_eq (v : Byte) (c : Bool) : aslByte v c = ⟨BitVec.ofNat 8 (v.toNat * 2 % 256), v.getLsbD 7⟩ := by
  rw [aslByte, ShiftOut.mk.injEq]
  exact ⟨by bv_omega, rfl⟩

theorem lsrByte_eq (v : Byte) (c : Bool) : lsrByte v c = ⟨BitVec.ofNat 8 (v.toNat / 2), v.getLsbD 0⟩ := by
  rw [lsrByte, ShiftOut.mk.injEq]
  exact ⟨by bv_omega, rfl⟩

theorem rolByte_eq (v : Byte) (c : Bool) :
    rolByte v c = ⟨BitVec.ofNat 8 ((v.toNat * 2 + c.toNat) % 256), v.getLsbD 7⟩ := by
  rw [rolByte, shiftLeft_or_ofBool, ShiftOut.mk.injEq]
  exact ⟨BitVec.eq_of_toNat_eq (by simp), rfl⟩

/-- The bit that enters at bit 7 adds 128 to half the value (R503, R504). -/
theorem ofBool_shiftLeft_or_shiftRight (v : Byte) (c : Bool) :
    ((BitVec.ofBool c).setWidth 8 <<< 7) ||| (v >>> 1) = BitVec.ofNat 8 (c.toNat * 128 + v.toNat / 2) := by
  have hlow : v.toNat / 2 < 2 ^ 7 := by omega
  have htop : ((BitVec.ofBool c).setWidth 8 <<< 7).toNat = c.toNat <<< 7 := by cases c <;> rfl
  apply BitVec.eq_of_toNat_eq
  rw [BitVec.toNat_or, htop, BitVec.toNat_ushiftRight, Nat.shiftRight_eq_div_pow, pow_one,
    ← Nat.shiftLeft_add_eq_or_of_lt hlow, Nat.shiftLeft_eq, BitVec.toNat_ofNat]
  have hc := Bool.toNat_le c
  omega

theorem rorByte_eq (v : Byte) (c : Bool) :
    rorByte v c = ⟨BitVec.ofNat 8 (c.toNat * 128 + v.toNat / 2), v.getLsbD 0⟩ := by
  rw [rorByte, ofBool_shiftLeft_or_shiftRight]

/-- ASR is the rotate right in which the old bit 7 enters (R504). -/
theorem asrByte_eq_rorByte (v : Byte) (c : Bool) : asrByte v c = rorByte v v.msb := by
  have hsign : v &&& 0x80#8 = (BitVec.ofBool v.msb).setWidth 8 <<< 7 := by
    rw [BitVec.msb_eq_getLsbD_last]
    refine (BitVec.and_twoPow v 7).trans ?_
    cases v.getLsbD 7 <;> rfl
  rw [asrByte, rorByte, hsign, BitVec.or_comm]

theorem asrByte_eq (v : Byte) (c : Bool) :
    asrByte v c = ⟨BitVec.ofNat 8 (v.toNat / 2 + v.toNat / 128 * 128), v.getLsbD 0⟩ := by
  have hmsb : v.msb.toNat = v.toNat / 128 := by
    rw [BitVec.msb_eq_decide, Bool.toNat, Bool.cond_decide]
    split <;> omega
  rw [asrByte_eq_rorByte, rorByte_eq, hmsb, Nat.add_comm]

/-- Settles O26: each form runs its shift on its operand; the shift's equation gives the result and the carry. -/
theorem byteShiftResult : Obligations.ByteShiftResult := by
  intro b w s c g hg f hf
  simp only [List.mem_cons, List.not_mem_nil, or_false] at hg
  obtain ⟨op, hvalue, hcode, hexec⟩ : ∃ op : Byte → Bool → ShiftOut,
      (∀ v, op v (s.flag .c) = ⟨BitVec.ofNat 8 (g.2.2 v.toNat), v.getLsbD g.2.1⟩) ∧
        f.instr.opcode = f.opcode ∧ exec f.instr s = shift op f.operand s := by
    rcases hg with rfl | rfl | rfl | rfl | rfl
    · exact ⟨aslByte, fun v => aslByte_eq v _, aslForms_exec s b w f hf⟩
    · exact ⟨lsrByte, fun v => lsrByte_eq v _, lsrForms_exec s b w f hf⟩
    · exact ⟨rolByte, fun v => rolByte_eq v _, rolForms_exec s b w f hf⟩
    · exact ⟨rorByte, fun v => rorByte_eq v _, rorForms_exec s b w f hf⟩
    · exact ⟨asrByte, fun v => asrByte_eq v _, asrForms_exec s b f hf⟩
  exact ⟨hcode, by simpa only [hexec, hvalue] using shift_result op f.operand s⟩

/-! ASW and ROW (R505, R506): a word is read, shifted and written back, low byte first. -/

namespace Frame

variable {s t : State} {regs : List Reg} {flags : List Flag} {stored : List Word}

/-- Consuming operand bytes and reading a word changes no register, flag or byte of memory (R205). -/
theorem advance_mem16 (s : State) (k : Nat) (a : Word) :
    Frame s ((s.advance k).mem16 a).2 regs flags stored where
  regs r _ := by cases r <;> rfl
  flags _ _ := rfl
  memory _ _ := rfl
  cyc := rfl
  bound := rfl
  io := rfl
  cfg := rfl
  psg := rfl

theorem memWrite16 (h : Frame s t regs flags stored) {a : Word} (hlo : a ∈ stored) (hhi : a + 1#16 ∈ stored)
    (w : Word) : Frame s (t.memWrite16 a w) regs flags stored := (h.memWrite hlo _).memWrite hhi _

theorem setNZ16 (h : Frame s t regs flags stored) (hn : .n ∈ flags) (hz : .z ∈ flags) (w : Word) :
    Frame s (t.setNZ16 w) regs flags stored := (h.setFlag hz _).setFlag hn _

end Frame

/-- SetNZ16 sets N and Z as the word says (R17). -/
theorem nz16_setNZ16 (s : State) (w : Word) : NZ16 (s.setNZ16 w) w := by
  rw [NZ16, State.setNZ16_flag_z, State.setNZ16_flag_n, beq_iff_eq]
  exact ⟨Iff.rfl, BitVec.msb_eq_getLsbD_last w⟩

theorem State.memWrite16_flag (s : State) (a w : Word) (g : Flag) : (s.memWrite16 a w).flag g = s.flag g := rfl

/-- A word instruction ends with two writes, low byte first, and SetNZ16; before them it ran on from the operand's read
in `u` to `t`, writing flags alone (R429). -/
theorem storedWordAt_memWrite16_setNZ16 {s u t : State} {flags : List Flag} (hcompleted : Completed s t)
    (hpc : t.pc = u.pc) (hport : PortAfter u t []) (hframe : Frame s t [] flags []) (hn : .n ∈ flags) (hz : .z ∈ flags)
    (ea r : Word) : StoredWordAt s u ((t.memWrite16 ea r).setNZ16 r) ea flags r := by
  obtain ⟨hops, hdraws⟩ := hport
  refine ⟨hcompleted, hpc, ?_, ?_, ((hframe.storing _).memWrite16 (by simp) (by simp) r).setNZ16 hn hz r, ?_, hdraws⟩
  · rw [State.setNZ16_mem, State.memWrite16_read, if_neg (address_ne_succ ea), if_pos rfl]
  · rw [State.setNZ16_mem, State.memWrite16_read, if_pos rfl]
  · simp [State.memWrite16, hops]

/-- A left shift of a word, `low` entering at bit 0: C is the old bit 15 (R505, R506). -/
theorem shiftWordLeft_result (low : Bool) (w : Word) (s : State) :
    let v := ((s.advance 2).mem16 w).1
    let r := BitVec.ofNat 16 (v.toNat * 2 + low.toNat)
    ∃ t, shiftWordLeft low w s = .next t ∧ t.flag .c = v.getLsbD 15 ∧ NZ16 t r ∧
      StoredWordAt s ((s.advance 2).mem16 w).2 t w [.n, .z, .c] r := by
  intro v r
  let u := ((s.advance 2).mem16 w).2.setFlag .c v.msb
  have hrun : shiftWordLeft low w s = .next ((u.memWrite16 w r).setNZ16 r) := by
    rw [show r = v <<< 1 ||| (BitVec.ofBool low).setWidth 16 from (shiftLeft_or_ofBool v low).symm]
    exact shiftWordLeft_eq s low w
  have hcarry : u.flag .c = v.getLsbD 15 := by simp [u, BitVec.msb_eq_getLsbD_last]
  have hframe : Frame s u [] [.n, .z, .c] [] := (Frame.advance_mem16 s 2 w).setFlag (by simp) _
  have hcompleted : Completed s u := ⟨rfl, rfl, rfl⟩
  have hport : PortAfter ((s.advance 2).mem16 w).2 u [] := ⟨(List.append_nil _).symm, rfl⟩
  refine ⟨_, hrun, ?_, nz16_setNZ16 _ r,
    storedWordAt_memWrite16_setNZ16 hcompleted rfl hport hframe (by simp) (by simp) w r⟩
  rw [State.setNZ16_flag _ _ (by decide) (by decide), State.memWrite16_flag, hcarry]

/-- Settles O27: ASW shifts 0 in, ROW the old C. -/
theorem wordShiftResult : Obligations.WordShiftResult := by
  intro w s g hg
  simp only [List.mem_cons, List.not_mem_nil, or_false] at hg
  rcases hg with rfl | rfl
  · exact ⟨rfl, shiftWordLeft_result false w s⟩
  · exact ⟨rfl, shiftWordLeft_result (s.flag .c) w s⟩

end Sys2Proof.Machine
end

section
/-! PROOFS. Memory bit manipulation (43_bit_manipulation.md): what clearing and setting one bit does to every bit. -/

namespace Sys2Proof.Machine

theorem getLsbD_one_shiftLeft (n k : Nat) : (1#8 <<< n).getLsbD k = (decide (n < 8) && decide (n = k)) := by
  rw [← BitVec.twoPow_eq, BitVec.getLsbD_twoPow]

/-- The mask of RMBn clears bit n and keeps every other bit (R550). -/
theorem getLsbD_clearBit (v : Byte) (n k : Nat) :
    (v &&& ~~~(1#8 <<< n)).getLsbD k = if k = n then false else v.getLsbD k := by
  rw [BitVec.getLsbD_and, BitVec.getLsbD_not, getLsbD_one_shiftLeft]
  by_cases hk : k < 8
  · obtain rfl | hne := eq_or_ne k n
    · simp [hk]
    · simp [hk, hne, hne.symm]
  · simp [BitVec.getLsbD_of_ge v k (not_lt.mp hk)]

/-- The mask of SMBn, for a bit of the byte, sets bit n and keeps every other bit (R560). -/
theorem getLsbD_setBit (v : Byte) {n : Nat} (hn : n < 8) (k : Nat) :
    (v ||| (1#8 <<< n)).getLsbD k = if k = n then true else v.getLsbD k := by
  rw [BitVec.getLsbD_or, getLsbD_one_shiftLeft]
  obtain rfl | hne := eq_or_ne k n
  · simp [hn]
  · simp [hne, hne.symm]

/-- A read-modify-write of memory that computes with the byte alone is one read and one write (R425). -/
theorem storedAt_rmw_mem (f : Byte → Byte) (m : AddrMode) (s : State) :
    StoredAt s (s.rmw (.mem m) fun v u => (f v, u)) (.mem m) [] (f (s.load (.mem m)).1) :=
  (ReadOperand.load s (.mem m)).memWrite (Frame.load s (.mem m)) _

/-- The n-th variant has opcode 0x07 + 0x10 n (R551 to R558). -/
theorem rmbForms_opcode (b : Byte) : ∀ f ∈ rmbForms b, f.opcode = BitVec.ofNat 8 (0x07 + 0x10 * f.operand) := by
  simp [rmbForms]

/-- The n-th variant has opcode 0x87 + 0x10 n (R561 to R568). -/
theorem smbForms_opcode (b : Byte) : ∀ f ∈ smbForms b, f.opcode = BitVec.ofNat 8 (0x87 + 0x10 * f.operand) := by
  simp [smbForms]

/-- The variants of SMB name the eight bits of a byte (R561 to R568). -/
theorem smbForms_operand_lt (b : Byte) : ∀ f ∈ smbForms b, f.operand < 8 := by
  simp [smbForms]

/-- Settles O28: each variant stores the byte masked at its bit, and the mask's effect on every bit is known. -/
theorem memoryBitResult : Obligations.MemoryBitResult := by
  intro b s g hg f hf
  simp only [List.mem_cons, List.not_mem_nil, or_false] at hg
  rcases hg with rfl | rfl
  · obtain ⟨hop, hexec⟩ := rmbForms_exec s b f hf
    exact ⟨hop, rmbForms_opcode b f hf, _, _, hexec, storedAt_rmw_mem (· &&& ~~~(1#8 <<< f.operand)) (.bp b) s,
      getLsbD_clearBit _ f.operand⟩
  · obtain ⟨hop, hexec⟩ := smbForms_exec s b f hf
    exact ⟨hop, smbForms_opcode b f hf, _, _, hexec, storedAt_rmw_mem (· ||| (1#8 <<< f.operand)) (.bp b) s,
      getLsbD_setBit _ (smbForms_operand_lt b f hf)⟩

end Sys2Proof.Machine
end

section
/-! PROOFS. Stack instructions (44_stack.md): frames, the limits, pushes, words pushed, pulls. -/

namespace Sys2Proof.Machine

/-- A register written by name. -/
def State.setReg (s : State) : Reg → Byte → State
  | .a => s.setA
  | .x => s.setX
  | .y => s.setY
  | .z => s.setZ
  | .sp => s.setSp

/-- A written register holds the value written, every other register what it held. -/
theorem State.setReg_reg (s : State) (r : Reg) (v : Byte) (q : Reg) :
    (s.setReg r v).reg q = if q = r then v else s.reg q := by
  cases r <;> cases q <;> rfl

theorem State.setNZ8_reg (s : State) (v : Byte) (r : Reg) : (s.setNZ8 v).reg r = s.reg r := by cases r <;> rfl

/-! What the operations of a stack instruction do to the frame, the outcome and the port's record. -/

namespace Frame

variable {s t : State} {regs : List Reg} {flags : List Flag} {stored : List Word}

/-- What is framed with nothing written is framed with anything allowed. -/
theorem allowing (h : Frame s t [] [] []) : Frame s t regs flags stored where
  __ := h
  regs r _ := h.regs r List.not_mem_nil
  flags f _ := h.flags f List.not_mem_nil
  memory b _ := h.memory b List.not_mem_nil

theorem refl (s : State) : Frame s s regs flags stored where
  regs _ _ := rfl
  flags _ _ := rfl
  memory _ _ := rfl
  cyc := rfl
  bound := rfl
  io := rfl
  cfg := rfl
  psg := rfl

variable (h : Frame s t regs flags stored)
include h

/-- The other registers keep their values (R107). -/
theorem setReg {r : Reg} (hr : r ∈ regs) (v : Byte) : Frame s (t.setReg r v) regs flags stored := by
  have hregs : ∀ q, q ∉ regs → (t.setReg r v).reg q = s.reg q := fun q hq => by
    have hne : q ≠ r := fun e => hq (e ▸ hr)
    rw [State.setReg_reg, if_neg hne, h.regs q hq]
  cases r <;> exact { h with regs := hregs }

theorem setSp (hsp : .sp ∈ regs) (v : Byte) : Frame s (t.setSp v) regs flags stored := h.setReg hsp v

theorem afterRead (a : Word) : Frame s (t.afterRead a) regs flags stored := { h with }

theorem raiseStackFault (k : StackFaultKind) : Frame s (t.raiseStackFault k) regs flags stored := { h with }

end Frame

/-- A write of P is framed when every flag may be written (R109). -/
theorem Frame.setP {s t : State} {regs : List Reg} {stored : List Word} (h : Frame s t regs allFlags stored)
    (v : Byte) : Frame s (t.setP v) regs allFlags stored :=
  { h with flags := fun f hf => absurd (by cases f <;> simp [allFlags]) hf }

/-! The limits (R430, R431). -/

section
variable {s : State}

theorem State.canPush_one_iff : s.canPush 1 ↔ ¬(s.sp = 0x00#8 ∧ s.cfg.stackLimit = .fault) := by
  have hzero : 1 ≤ s.sp.toNat ↔ s.sp ≠ 0x00#8 := by constructor <;> intro <;> bv_omega
  rw [State.canPush, hzero]
  tauto

theorem State.canPull_one_iff : s.canPull 1 ↔ ¬(s.sp = 0xFF#8 ∧ s.cfg.stackLimit = .fault) := by
  have htop : s.sp.toNat + 1 ≤ 0xFF ↔ s.sp ≠ 0xFF#8 := by constructor <;> intro <;> bv_omega
  rw [State.canPull, htop]
  tauto

/-- Two bytes meet the limit at SP = 0x00, the first of them, and at SP = 0x01, the second. -/
theorem State.limit_of_not_canPush_two (h : ¬s.canPush 2) :
    s.cfg.stackLimit = .fault ∧ (s.sp = 0x00#8 ∨ s.sp = 0x01#8) := by
  obtain ⟨hlimit, hroom⟩ := Classical.not_imp.mp h
  refine ⟨hlimit, ?_⟩
  bv_omega

theorem State.push16_of_error {t : State} {w : Word} (h : s.push (highByte w) = .error t) : s.push16 w = .error t := by
  rw [State.push16, h]

theorem State.push16_of_ok {t : State} {w : Word} (h : s.push (highByte w) = .ok t) :
    s.push16 w = t.push (lowByte w) := by
  rw [State.push16, h]

/-- With a byte to pull, SP goes up and the byte is read at the new stack address (R431). -/
theorem State.pull_of_canPull (h : s.canPull 1) :
    s.pull = .ok (s.pulled 0, (s.setSp (s.sp + 1#8)).afterRead (stackAddr (s.sp + 1#8))) :=
  State.pull_ok (State.canPull_one_iff.mp h)

theorem State.pull_of_not_canPull (h : ¬s.canPull 1) : s.pull = .error (s.raiseStackFault .underflow) :=
  State.pull_underflow (not_not.mp (mt State.canPull_one_iff.mpr h))

/-- The port's record after a pull is that of the one read it makes (R431). -/
theorem portAfter_pull (s : State) :
    PortAfter (s.afterPulls 1) ((s.setSp (s.sp + 1#8)).afterRead (stackAddr (s.sp + 1#8))) [] :=
  ⟨(List.append_nil _).symm, rfl⟩

end

/-! PHA, PHP, PHX, PHY, PHZ (R600 to R604). -/

theorem stackAddr_toNat (r : Byte) : (stackAddr r).toNat = 0x0100 + r.toNat := by
  rw [stackAddr, toNat_add_zext, Config.stackBase, BitVec.toNat_ofNat]
  omega

theorem pushByte_of_canPush {s : State} (h : s.canPush 1) (v : Byte) :
    ∃ t, pushByte v s = .next t ∧ Completed s t ∧ t.sp = s.sp - 1#8 ∧ t.pc = s.pc ∧
      t.mem.read (stackAddr s.sp).toNat = v ∧ Frame s t [.sp] [] [stackAddr s.sp] ∧
      PortAfter s t [.write (stackAddr s.sp) v] := by
  have hpush := State.push_ok v (State.canPush_one_iff.mp h)
  exact ⟨_, congrArg finish hpush, ⟨rfl, rfl, rfl⟩, rfl, rfl, by simp,
    ((Frame.refl s).memWrite List.mem_cons_self v).setSp List.mem_cons_self _, rfl, rfl⟩

/-- At the limit the byte is written before the overflow is raised (R430, R432). -/
theorem pushByte_of_not_canPush {s : State} (h : ¬s.canPush 1) (v : Byte) :
    ∃ t, pushByte v s = .next t ∧ Raised s t .overflow ∧ t.pc = s.pc ∧ t.mem.read 0x0100 = v ∧
      Frame s t [] [] [0x0100#16] ∧ PortAfter s t [.write 0x0100#16 v] := by
  have hlimit := not_not.mp (mt State.canPush_one_iff.mpr h)
  have hpush : s.push v = .error ((s.memWrite 0x0100#16 v).raiseStackFault .overflow) := by
    rw [State.push_overflow v hlimit, hlimit.1]
    rfl
  exact ⟨_, congrArg finish hpush, ⟨rfl, rfl, rfl⟩, rfl,
    (Memory.read_write s.mem 0x0100 0x0100 v).trans (if_pos rfl),
    ((Frame.refl s).memWrite List.mem_cons_self v).raiseStackFault _, rfl, rfl⟩

/-- Settles O29: each form pushes its register, away from the limit or at it. -/
theorem pushResult : Obligations.PushResult := by
  refine ⟨stackAddr_toNat, fun s f hf => ?_⟩
  obtain ⟨hop, hexec⟩ := pushForms_exec s f hf
  rw [hexec]
  exact ⟨hop, fun h => pushByte_of_canPush h _, fun h => pushByte_of_not_canPush h _⟩

/-! PHW (R605, R606). In each lemma `u` is the state in which the operand was read: between `s` and `u` only PC and
the port's record moved. -/

section
variable {s u : State} (hcompleted : Completed s u) (hframe : Frame s u [] [] [])
include hframe

theorem sp_eq_of_frame : u.sp = s.sp := hframe.regs .sp List.not_mem_nil

include hcompleted

/-- With room for two bytes the word is pushed and no limit is met (R205, R430, R434). -/
theorem push16_pushedWord (hroom : s.canPush 2) (w : Word) :
    ∃ t, u.push16 w = .ok t ∧ t.pc = u.pc ∧ PushedWord s u t w := by
  have hsp := sp_eq_of_frame hframe
  have hroom' : u.canPush 2 := by rwa [State.canPush, hframe.cfg, hsp]
  have hread := State.pushed16_read u w
  rw [hsp] at hread
  refine ⟨_, State.push16_eq_pushed16 hroom' w, rfl, hcompleted, ?_, ?_, ?_, ?_, ?_⟩
  · rw [State.pushed16, State.setSp_sp, hsp, BitVec.sub_sub]
    rfl
  · rw [hread, if_neg (stackAddr_ne_pred s.sp), if_pos rfl]
  · rw [hread, if_pos rfl]
  · rw [State.pushed16, hsp]
    exact (((hframe.allowing.memWrite (by simp) _).setSp (by simp) _).memWrite (by simp) _).setSp (by simp) _
  · simp [PortAfter, State.pushed16, hsp]

/-- At SP = 0x00 the fault is raised after the high byte, at SP = 0x01 after the low byte (R430, R432). -/
theorem push16_overflowed (hroom : ¬s.canPush 2) (w : Word) :
    ∃ t, u.push16 w = .error t ∧ PushWordOverflowed s u t w := by
  obtain ⟨hlimit, hlow⟩ := State.limit_of_not_canPush_two hroom
  obtain ⟨-, -, hdiag⟩ := hcompleted
  have hsp := sp_eq_of_frame hframe
  rw [← hframe.cfg] at hlimit
  rcases hlow with hzero | hone
  · rw [hzero] at hsp
    have hpush := State.push_overflow (highByte w) ⟨hsp, hlimit⟩
    rw [hsp] at hpush
    refine ⟨_, State.push16_of_error hpush, ⟨rfl, rfl, hdiag⟩, rfl, hsp, ?_, fun _ => ⟨?_, rfl, rfl⟩,
      fun hone => ?_⟩
    · simp [hzero]
    · exact (hframe.allowing.memWrite List.mem_cons_self _).raiseStackFault _
    · simp [hzero] at hone
  · rw [hone] at hsp
    have hfirst := State.push_ok (s := u) (highByte w) (by simp [hsp])
    have hsecond := State.push_overflow (s := (u.memWrite (stackAddr 0x01#8) (highByte w)).setSp 0x00#8) (lowByte w)
      ⟨rfl, hlimit⟩
    rw [hsp] at hfirst
    have hne : stackAddr 0x01#8 ≠ stackAddr 0x00#8 := stackAddr_ne_pred 0x01#8
    refine ⟨_, (State.push16_of_ok hfirst).trans hsecond, ⟨rfl, rfl, hdiag⟩, rfl, rfl, ?_, fun hzero => ?_,
      fun _ => ⟨?_, ?_, ?_⟩⟩
    · simp [hone, hne]
    · simp [hone] at hzero
    · simp
    · exact (((hframe.allowing.memWrite (by simp) _).setSp (by simp) _).memWrite (by simp) _).raiseStackFault _
    · simp [PortAfter]

end

/-- Settles O30: both forms push from a state that differs from `s` in PC and the port's record alone. -/
theorem pushWordResult : Obligations.PushWordResult := by
  intro w s g hg
  obtain ⟨hop, hexec, hcompleted, hframe, hpc⟩ : g.1.opcode = g.2.1 ∧
      exec g.1 s = finish (g.2.2.2.push16 g.2.2.1) ∧ Completed s g.2.2.2 ∧ Frame s g.2.2.2 [] [] [] ∧
      g.2.2.2.pc = s.pc + 2#16 := by
    simp only [List.mem_cons, List.not_mem_nil, or_false] at hg
    rcases hg with rfl | rfl
    · exact ⟨rfl, rfl, ⟨rfl, rfl, rfl⟩, { Frame.refl s with }, rfl⟩
    · exact ⟨rfl, rfl, ⟨rfl, rfl, rfl⟩, Frame.advance_mem16 s 2 w, rfl⟩
  refine ⟨hop, fun hroom => ?_, fun hroom => ?_⟩
  · obtain ⟨t, hpush, htpc, hpushed⟩ := push16_pushedWord hcompleted hframe hroom g.2.2.1
    exact ⟨t, hexec.trans (congrArg finish hpush), htpc.trans hpc, hpushed⟩
  · obtain ⟨t, hpush, hover⟩ := push16_overflowed hcompleted hframe hroom g.2.2.1
    have ⟨_, htpc, _⟩ := hover
    exact ⟨t, hexec.trans (congrArg finish hpush), htpc.trans hpc, hover⟩

/-! PLA, PLX, PLY, PLZ, PLP (R607 to R611). -/

theorem pullForms_exec (s : State) : ∀ f ∈ pullForms, f.operand ≠ .sp ∧ f.instr.opcode = f.opcode ∧
    exec f.instr s = pullRegister (fun u => u.setReg f.operand) s := by
  intro f hf
  simp only [pullForms, List.mem_cons, List.not_mem_nil, or_false] at hf
  rcases hf with rfl | rfl | rfl | rfl <;> exact ⟨by decide, rfl, rfl⟩

section
variable {s : State}

theorem pullRegister_of_pull {set : State → Byte → State} {v : Byte} {u : State} (h : s.pull = .ok (v, u)) :
    pullRegister set s = .next ((set u v).setNZ8 v) := by rw [pullRegister, h]

theorem pullFlags_of_pull {v : Byte} {u : State} (h : s.pull = .ok (v, u)) : pullFlags s = .next (u.setP v) := by
  rw [pullFlags, h]

theorem pullRegister_of_canPull (h : s.canPull 1) {r : Reg} (hr : r ≠ .sp) :
    ∃ t, pullRegister (fun u => u.setReg r) s = .next t ∧ t.reg r = s.pulled 0 ∧ NZ8 t (s.pulled 0) ∧
      t.sp = s.sp + 1#8 ∧ t.pc = s.pc ∧ Completed s t ∧ PortAfter (s.afterPulls 1) t [] ∧
      Frame s t [.sp, r] [.n, .z] [] := by
  let u := (s.setSp (s.sp + 1#8)).afterRead (stackAddr (s.sp + 1#8))
  have hframe : Frame s u [.sp, r] [.n, .z] [] := ((Frame.refl s).setSp (by simp) _).afterRead _
  have hsp : (u.setReg r (s.pulled 0)).sp = s.sp + 1#8 := (u.setReg_reg r _ .sp).trans (if_neg hr.symm)
  refine ⟨(u.setReg r (s.pulled 0)).setNZ8 (s.pulled 0), pullRegister_of_pull (State.pull_of_canPull h), ?_,
    nz8_setNZ8 _ _, hsp, ?_, ?_, ?_, (hframe.setReg (by simp) _).setNZ8 (by simp) (by simp) _⟩
  · rw [State.setNZ8_reg, State.setReg_reg, if_pos rfl]
  · cases r <;> rfl
  · cases r <;> exact ⟨rfl, rfl, rfl⟩
  · cases r <;> exact portAfter_pull s

/-- PLP loads all eight bits of P (R608). -/
theorem pullFlags_of_canPull (h : s.canPull 1) :
    ∃ t, pullFlags s = .next t ∧ t.p = s.pulled 0 ∧ t.sp = s.sp + 1#8 ∧ t.pc = s.pc ∧ Completed s t ∧
      PortAfter (s.afterPulls 1) t [] ∧ Frame s t [.sp] allFlags [] :=
  ⟨_, pullFlags_of_pull (State.pull_of_canPull h), rfl, rfl, rfl, ⟨rfl, rfl, rfl⟩, portAfter_pull s,
    (((Frame.refl s).setSp (by simp) _).afterRead _).setP _⟩

/-- At the limit no pull does anything but raise the underflow (R431, R432). -/
theorem exec_of_not_canPull (h : ¬s.canPull 1) : ∀ i ∈ [Instr.pla, .plx, .ply, .plz, .plp],
    exec i s = .next (s.raiseStackFault .underflow) := by
  have hregister (set : State → Byte → State) : pullRegister set s = .next (s.raiseStackFault .underflow) := by
    rw [pullRegister, State.pull_of_not_canPull h]
  have hflags : pullFlags s = .next (s.raiseStackFault .underflow) := by
    rw [pullFlags, State.pull_of_not_canPull h]
  intro i hi
  simp only [List.mem_cons, List.not_mem_nil, or_false] at hi
  rcases hi with rfl | rfl | rfl | rfl | rfl
  · exact hregister State.setA
  · exact hregister State.setX
  · exact hregister State.setY
  · exact hregister State.setZ
  · exact hflags

end

/-- Settles O31: each form pulls into its register or into P, or stops at the limit. -/
theorem pullResult : Obligations.PullResult := by
  intro s
  refine ⟨fun h => ⟨fun f hf => ?_, rfl, pullFlags_of_canPull h⟩, fun h i hi => ?_⟩
  · obtain ⟨hr, hop, hexec⟩ := pullForms_exec s f hf
    rw [hexec]
    exact ⟨hop, pullRegister_of_canPull h hr⟩
  · exact ⟨_, exec_of_not_canPull h i hi, ⟨rfl, rfl, rfl⟩, rfl, ⟨(List.append_nil _).symm, rfl⟩,
      (Frame.refl s).raiseStackFault _⟩

end Sys2Proof.Machine
end

section
/-! PROOFS. Register transfers (45_transfer.md): a register written, N and Z from it, or SP alone. -/

namespace Sys2Proof.Machine

/-! A register written by name leaves PC, the outcome and the port's record alone (R107). -/

section
variable (s : State) (r : Reg) (v : Byte)

@[simp] theorem State.setReg_pc : (s.setReg r v).pc = s.pc := by cases r <;> rfl

theorem completed_setReg : Completed s (s.setReg r v) := by cases r <;> exact ⟨rfl, rfl, rfl⟩

theorem portAfter_setReg : PortAfter s (s.setReg r v) [] := by cases r <;> exact ⟨(List.append_nil _).symm, rfl⟩

/-- A value put in a register, N and Z from it: no memory access, nothing else written. -/
theorem transfer_result :
    ∃ t, transfer (fun u => u.setReg r) v s = .next t ∧ t.reg r = v ∧ NZ8 t v ∧ t.pc = s.pc ∧ Completed s t ∧
      PortAfter s t [] ∧ Frame s t [r] [.n, .z] [] := by
  have hreg : ((s.setReg r v).setNZ8 v).reg r = v := by rw [State.setNZ8_reg, State.setReg_reg, if_pos rfl]
  exact ⟨_, transfer_eq s _ v, hreg, nz8_setNZ8 _ v, s.setReg_pc r v, completed_setReg s r v, portAfter_setReg s r v,
    ((Frame.refl s).setReg (by simp) v).setNZ8 (by simp) (by simp) v⟩

end

/-! TSY, TSX, TAX, TAY, TAZ, TXA, TYA, TZA; TYS, TXS (R650 to R659). -/

theorem transferForms_exec (s : State) : ∀ f ∈ transferForms, f.instr.opcode = f.opcode ∧
    exec f.instr s = transfer (fun u => u.setReg f.operand.1) (s.reg f.operand.2) s := by
  intro f hf
  simp only [transferForms, List.mem_cons, List.not_mem_nil, or_false] at hf
  rcases hf with rfl | rfl | rfl | rfl | rfl | rfl | rfl | rfl <;> exact ⟨rfl, rfl⟩

theorem stackTransferForms_exec (s : State) : ∀ f ∈ stackTransferForms, f.instr.opcode = f.opcode ∧
    exec f.instr s = .next (s.setSp (s.reg f.operand)) := by
  intro f hf
  simp only [stackTransferForms, List.mem_cons, List.not_mem_nil, or_false] at hf
  rcases hf with rfl | rfl <;> exact ⟨rfl, rfl⟩

/-- Settles O32: each form writes its destination from its source; the transfers to SP write no flag. -/
theorem transferResult : Obligations.TransferResult := by
  intro s
  refine ⟨fun f hf => ?_, fun f hf => ?_⟩
  · obtain ⟨hop, hexec⟩ := transferForms_exec s f hf
    rw [hexec]
    exact ⟨hop, transfer_result s f.operand.1 (s.reg f.operand.2)⟩
  · obtain ⟨hop, hexec⟩ := stackTransferForms_exec s f hf
    exact ⟨hop, _, hexec, State.setSp_sp s _, State.setSp_pc s _, completed_setReg s .sp _, portAfter_setReg s .sp _,
      (Frame.refl s).setSp (by simp) _⟩

/-! TAB, TBA (R660, R661). -/

/-- A one-byte opcode has no operand byte to skip: the rule emits its diagnostic and does nothing else (R404). -/
theorem State.unimplemented_of_length_one (s : State) {op : Byte} (hlen : opcodeLength op = 1) :
    s.unimplemented op = { s with diag := s.diag ++ [⟨.unimplemented, op, s.pc - 1#16⟩] } := by
  rw [State.unimplemented_eq, hlen, Nat.sub_self, BitVec.add_zero]

/-- Outside `IMPLEMENTED` both are the unimplemented-opcode rule. -/
theorem exec_basePageTransfer_outside (s : State) : ∀ i ∈ [Instr.tab, .tba], opcodeLength i.opcode = 1 ∧
    (s.cfg.implements i.opcode = false → exec i s = .next (s.unimplemented i.opcode)) := by
  intro i hi
  simp only [List.mem_cons, List.not_mem_nil, or_false] at hi
  rcases hi with rfl | rfl <;> exact ⟨rfl, fun h => if_neg (Bool.eq_false_iff.mp h)⟩

theorem exec_tab_inside {s : State} (h : s.cfg.implements 0x5B#8 = true) : exec .tab s = .next s := if_pos h

theorem exec_tba_inside {s : State} (h : s.cfg.implements 0x7B#8 = true) :
    exec .tba s = transfer State.setA 0x00#8 s := if_pos h

/-- Settles O33: outside `IMPLEMENTED` only the diagnostic; inside it TAB is a NOP and TBA a transfer of 0x00 to A. -/
theorem basePageTransferResult : Obligations.BasePageTransferResult := by
  intro s
  refine ⟨rfl, rfl, fun i hi hout => ?_, exec_tab_inside, fun hin => ?_⟩
  · obtain ⟨hlen, hexec⟩ := exec_basePageTransfer_outside s i hi
    rw [hexec hout, s.unimplemented_of_length_one hlen]
  · rw [exec_tba_inside hin]
    exact transfer_result s .a 0x00#8

end Sys2Proof.Machine
end

section
/-! PROOFS. Increments and decrements (46_inc_dec.md): both add a constant, 1 or the largest value of the width. -/

namespace Sys2Proof.Machine

/-! The results as numbers: modulo 2^n, subtracting 1 is adding 2^n - 1. -/

theorem add_ofNat_eq {n : Nat} (v : BitVec n) (k : Nat) : v + BitVec.ofNat n k = BitVec.ofNat n (v.toNat + k) := by
  rw [BitVec.ofNat_add, BitVec.ofNat_toNat, BitVec.setWidth_eq]

theorem sub_one_eq {n : Nat} (v : BitVec n) : v - 1#n = BitVec.ofNat n (v.toNat + (2 ^ n - 1)) := by
  rw [← add_ofNat_eq, BitVec.sub_eq_add_neg, BitVec.neg_one_eq_allOnes, BitVec.allOnes, BitVec.ofNatLT_eq_ofNat]

/-! INC, DEC (R700, R704). -/

/-- A read-modify-write that sets N and Z from the byte it stores, in A or in memory (R425). -/
theorem rmw_setNZ8_result (f : Byte → Byte) (place : Place) (s : State) :
    let r := f (s.load place.source).1
    let t := s.rmw place fun v u => (f v, u.setNZ8 (f v))
    NZ8 t r ∧ StoredAt s t place [.n, .z] r := by
  intro r t
  have hread : ReadOperand s ((s.load place.source).2.setNZ8 r) place.source := (ReadOperand.load s _).setNZ8 r
  have hnz := nz8_setNZ8 (s.load place.source).2 r
  cases place with
  | acc => exact ⟨hnz.setA _, hread.storedAt_setA ((Frame.load s _).setNZ8 (by simp) (by simp) r) r⟩
  | mem m => exact ⟨hnz.memWrite _ _, hread.memWrite ((Frame.load s _).setNZ8 (by simp) (by simp) r) r⟩

/-- Settles O34: each form is a read-modify-write by its function, whose equation gives the result. -/
theorem incrementDecrementResult : Obligations.IncrementDecrementResult := by
  intro b w s g hg f hf
  simp only [List.mem_cons, List.not_mem_nil, or_false] at hg
  obtain ⟨op, hvalue, hcode, hexec⟩ : ∃ op : Byte → Byte, (∀ v, op v = BitVec.ofNat 8 (v.toNat + g.2)) ∧
      f.instr.opcode = f.opcode ∧ exec f.instr s = .next (s.rmw f.operand fun v u => (op v, u.setNZ8 (op v))) := by
    rcases hg with rfl | rfl
    · exact ⟨(· + 1#8), fun v => add_ofNat_eq v 1, incForms_exec s b w f hf⟩
    · exact ⟨(· - 1#8), sub_one_eq, decForms_exec s b w f hf⟩
  exact ⟨hcode, _, hexec, by simpa only [hvalue] using rmw_setNZ8_result op f.operand s⟩

/-! INX, INY, INZ, DEX, DEY, DEZ, NEG (R701 to R703, R705 to R707, R869). -/

theorem incrementForms_exec (s : State) : ∀ f ∈ incrementForms, f.instr.opcode = f.opcode ∧
    exec f.instr s = transfer (fun u => u.setReg f.operand) (s.reg f.operand + 1#8) s := by
  intro f hf
  simp only [incrementForms, List.mem_cons, List.not_mem_nil, or_false] at hf
  rcases hf with rfl | rfl | rfl <;> exact ⟨rfl, rfl⟩

theorem decrementForms_exec (s : State) : ∀ f ∈ decrementForms, f.instr.opcode = f.opcode ∧
    exec f.instr s = transfer (fun u => u.setReg f.operand) (s.reg f.operand - 1#8) s := by
  intro f hf
  simp only [decrementForms, List.mem_cons, List.not_mem_nil, or_false] at hf
  rcases hf with rfl | rfl | rfl <;> exact ⟨rfl, rfl⟩

/-- A register replaced by a function of itself is a transfer to it: N and Z come from what it then holds. -/
theorem transfer_setReg_result (s : State) (r : Reg) {v : Byte} {k : Nat} (hv : v.toNat = k) :
    ∃ t, transfer (fun u => u.setReg r) v s = .next t ∧ (t.reg r).toNat = k ∧ NZ8 t (t.reg r) ∧ t.pc = s.pc ∧
      Completed s t ∧ PortAfter s t [] ∧ Frame s t [r] [.n, .z] [] := by
  obtain ⟨t, hrun, hreg, hnz, hrest⟩ := transfer_result s r v
  exact ⟨t, hrun, hreg ▸ hv, hreg ▸ hnz, hrest⟩

/-- Settles O35: each form transfers a register's new value to it, NEG that of A. -/
theorem registerArithmeticResult : Obligations.RegisterArithmeticResult := by
  intro s
  refine ⟨fun g hg f hf => ?_, rfl, ?_⟩
  · simp only [List.mem_cons, List.not_mem_nil, or_false] at hg
    obtain ⟨v, hvalue, hcode, hexec⟩ : ∃ v : Byte, v = BitVec.ofNat 8 ((s.reg f.operand).toNat + g.2) ∧
        f.instr.opcode = f.opcode ∧ exec f.instr s = transfer (fun u => u.setReg f.operand) v s := by
      rcases hg with rfl | rfl
      · exact ⟨_, add_ofNat_eq _ 1, incrementForms_exec s f hf⟩
      · exact ⟨_, sub_one_eq _, decrementForms_exec s f hf⟩
    exact ⟨hcode, hexec ▸ transfer_setReg_result s f.operand (hvalue ▸ BitVec.toNat_ofNat _ 8)⟩
  · have hneg : (0#8 - s.a).toNat = (256 - s.a.toNat) % 256 := BitVec.toNat_sub 0#8 s.a
    exact transfer_setReg_result s .a hneg

/-! INW, DEW (R708, R709). -/

/-- The word read is replaced by a function of it, N and Z from the 16-bit result. -/
theorem updateWord_result (f : Word → Word) (b : Byte) (s : State) {r : Word}
    (hr : f ((s.advance 1).mem16 (zext b)).1 = r) :
    ∃ t, updateWord f b s = .next t ∧ NZ16 t r ∧
      StoredWordAt s ((s.advance 1).mem16 (zext b)).2 t (zext b) [.n, .z] r := by
  let u := ((s.advance 1).mem16 (zext b)).2
  have hrun : updateWord f b s = .next ((u.memWrite16 (zext b) r).setNZ16 r) := hr ▸ updateWord_eq s f b
  have hcompleted : Completed s u := ⟨rfl, rfl, rfl⟩
  have hport : PortAfter u u [] := ⟨(List.append_nil _).symm, rfl⟩
  exact ⟨_, hrun, nz16_setNZ16 _ r, storedWordAt_memWrite16_setNZ16 hcompleted rfl hport
    (Frame.advance_mem16 s 1 (zext b)) (by simp) (by simp) (zext b) r⟩

/-- Settles O36: INW adds 1 to the word, DEW subtracts 1. -/
theorem wordIncrementResult : Obligations.WordIncrementResult := by
  intro b s g hg
  simp only [List.mem_cons, List.not_mem_nil, or_false] at hg
  rcases hg with rfl | rfl
  · exact ⟨rfl, updateWord_result (· + 1#16) b s (add_ofNat_eq _ 1)⟩
  · exact ⟨rfl, updateWord_result (· - 1#16) b s (sub_one_eq _)⟩

end Sys2Proof.Machine
end

section
/-! PROOFS. The PSG synthesis (50_psg_channel_engine.md): what sample pairs keep, the tone rate, the samples stored. -/

namespace Sys2Proof.Machine

/-! What a sample pair keeps: everything but the counters, the states, the seed and the buffer (R908). -/

/-- The block with everything that synthesis writes cleared. -/
def Psg.settings (p : Psg) : Psg :=
  { p with
    noiseCount := 0, seed := 0x0000#16, toneCount := ⟨0, 0, 0⟩, active := ⟨false, false, false⟩
    buffer := [], sampleDraws := 0 }

/-- The block with an empty buffer: what the samples of the pairs to come depend on. -/
def Psg.withoutBuffer (p : Psg) : Psg := { p with buffer := [] }

section
variable (p : Psg)

theorem Psg.generatePair_settings (k : Nat) : (p.generatePair k).settings = p.settings := by
  rw [Psg.generatePair, Psg.storePair_frame, Psg.advanceCounters_eq]
  rfl

theorem Psg.generatePairs_settings (k n : Nat) : (p.generatePairs k n).settings = p.settings := by
  induction n generalizing p k with
  | zero => rfl
  | succ n ih => exact (ih (p.generatePair k) (k + 1)).trans (p.generatePair_settings k)

section
variable (k n : Nat)

@[simp] theorem Psg.generatePairs_toneStep : (p.generatePairs k n).toneStep = p.toneStep :=
  (congrArg Psg.toneStep (p.generatePairs_settings k n) :)

@[simp] theorem Psg.generatePairs_baseStep : (p.generatePairs k n).baseStep = p.baseStep :=
  (congrArg Psg.baseStep (p.generatePairs_settings k n) :)

end

/-- The last of `n + 1` pairs is generated after the `n` before it (R908). -/
theorem Psg.generatePairs_succ (k n : Nat) : p.generatePairs k (n + 1) = (p.generatePairs k n).generatePair (k + n) :=
  p.generatePairs_add k n 1

end

/-! The tone rate (R910, R919). -/

section
variable (p : Psg) (ch : Channel)

/-- Whether the channel toggles in the next pair (R910). -/
def Psg.togglesNext : Bool := decide (p.toneStep.get ch < p.toneCount.get ch + p.baseStep)

/-- The channel after one pair: a toggle takes one tone step off the counter (R910). -/
theorem Psg.generatePair_tone (k : Nat) :
    (p.generatePair k).toneCount.get ch =
        p.toneCount.get ch + p.baseStep - (p.togglesNext ch).toNat * p.toneStep.get ch ∧
      (p.generatePair k).active.get ch = (p.active.get ch ^^ p.togglesNext ch) := by
  obtain ⟨hcount, hactive⟩ := p.advanceCounters_tone ch
  rw [Psg.generatePair, Psg.storePair_frame]
  simp only [hcount, hactive, Psg.togglesNext, gt_iff_lt]
  split
  · next h => simp [h]
  · next h => simp [h]

theorem Psg.toggles_succ (k : Nat) :
    p.toggles ch (k + 1) = p.toggles ch k + ((p.generatePairs 0 k).togglesNext ch).toNat := by
  obtain ⟨-, hactive⟩ := (p.generatePairs 0 k).generatePair_tone ch (0 + k)
  simp only [Psg.toggles, List.range_succ, List.filter_append, List.length_append]
  congr 1
  rw [List.filter_singleton, Psg.generatePairs_succ, hactive]
  cases (p.generatePairs 0 k).togglesNext ch <;> simp

/-- What the counter gained in `k` pairs it holds, or lost by whole tone steps, one per toggle. -/
theorem Psg.toneCount_add_toggles (k : Nat) :
    (p.generatePairs 0 k).toneCount.get ch + p.toggles ch k * p.toneStep.get ch =
      p.toneCount.get ch + k * p.baseStep := by
  induction k with
  | zero => simp [Psg.toggles, Psg.generatePairs]
  | succ k ih =>
    obtain ⟨hcount, -⟩ := (p.generatePairs 0 k).generatePair_tone ch (0 + k)
    rw [Psg.generatePairs_succ, hcount, Psg.toggles_succ, Psg.generatePairs_toneStep,
      Psg.generatePairs_baseStep]
    push_cast
    linarith

end

section
variable {p : Psg} {ch : Channel}

/-- One pair keeps the counter in 0..toneStep, and a positive base step leaves it above 0 (R919). -/
theorem Psg.generatePair_toneCount_range (hbase : p.baseStep ≤ p.toneStep.get ch) (hlo : 0 ≤ p.toneCount.get ch)
    (hhi : p.toneCount.get ch ≤ p.toneStep.get ch) (k : Nat) :
    0 ≤ (p.generatePair k).toneCount.get ch ∧ (p.generatePair k).toneCount.get ch ≤ p.toneStep.get ch ∧
      (0 < p.baseStep → 0 < (p.generatePair k).toneCount.get ch) := by
  obtain ⟨hcount, -⟩ := p.generatePair_tone ch k
  rw [hcount, Psg.togglesNext]
  by_cases h : (p.toneStep.get ch : Int) < p.toneCount.get ch + p.baseStep
  · simp only [h, decide_true, Bool.toNat_true]
    omega
  · simp only [h, decide_false, Bool.toNat_false]
    omega

/-- The range of the counter through any number of pairs (R919). -/
theorem Psg.generatePairs_toneCount_range (hbase : p.baseStep ≤ p.toneStep.get ch) (hlo : 0 ≤ p.toneCount.get ch)
    (hhi : p.toneCount.get ch ≤ p.toneStep.get ch) (k n : Nat) :
    0 ≤ (p.generatePairs k n).toneCount.get ch ∧ (p.generatePairs k n).toneCount.get ch ≤ p.toneStep.get ch := by
  induction n with
  | zero => exact ⟨hlo, hhi⟩
  | succ n ih =>
    obtain ⟨hlo', hhi'⟩ := ih
    obtain ⟨hlow, hhigh, -⟩ := Psg.generatePair_toneCount_range (p := p.generatePairs k n) (by simpa using hbase) hlo'
      (by simpa using hhi') (k + n)
    rw [Psg.generatePairs_succ]
    exact ⟨hlow, by simpa using hhigh⟩

/-- After at least one pair with a positive base step the counter is above 0: a toggle leaves something in it. -/
theorem Psg.generatePairs_toneCount_pos (hpos : 0 < p.baseStep) (hbase : p.baseStep ≤ p.toneStep.get ch)
    (hlo : 0 ≤ p.toneCount.get ch) (hhi : p.toneCount.get ch ≤ p.toneStep.get ch) (n : Nat) :
    0 < (p.generatePairs 0 (n + 1)).toneCount.get ch := by
  obtain ⟨hlo', hhi'⟩ := Psg.generatePairs_toneCount_range hbase hlo hhi 0 n
  obtain ⟨-, -, habove⟩ := Psg.generatePair_toneCount_range (p := p.generatePairs 0 n) (by simpa using hbase) hlo'
    (by simpa using hhi') (0 + n)
  rw [Psg.generatePairs_succ]
  exact habove (by simpa using hpos)

end

/-- The quotient rounded up, less 1, from a remainder in 1..d. -/
theorem eq_ceilDiv_sub_one {t d r n : Nat} (h : r + t * d = n) (hlo : 0 < r) (hhi : r ≤ d) :
    t = (n + d - 1) / d - 1 := by
  have hquot : (n + d - 1) / d = t + 1 := by
    subst h
    refine Nat.div_eq_of_lt_le ?_ ?_
    · rw [Nat.add_one_mul]; omega
    · rw [Nat.add_one_mul, Nat.add_one_mul]; omega
  rw [hquot, Nat.add_sub_cancel]

/-- Settles O60: the counter, in 1..toneStep after at least one pair, is the rest of what it gained by whole steps. -/
theorem toneRate : Obligations.ToneRate := by
  intro p ch hpos hbase
  refine ⟨fun hlo hhi k => Psg.generatePairs_toneCount_range hbase hlo hhi 0 k, fun hzero k hk => ?_⟩
  obtain ⟨n, rfl⟩ : ∃ n, k = n + 1 := ⟨k - 1, by omega⟩
  have hlo : 0 ≤ p.toneCount.get ch := hzero.ge
  have hhi : p.toneCount.get ch ≤ p.toneStep.get ch := by omega
  have hsum := p.toneCount_add_toggles ch (n + 1)
  have hleft := Psg.generatePairs_toneCount_pos hpos hbase hlo hhi n
  obtain ⟨-, hright⟩ := Psg.generatePairs_toneCount_range hbase hlo hhi 0 (n + 1)
  obtain ⟨r, hr⟩ := Int.eq_ofNat_of_zero_le hleft.le
  rw [hr] at hsum hleft hright
  rw [hzero, zero_add] at hsum
  exact eq_ceilDiv_sub_one (by exact_mod_cast hsum) (by exact_mod_cast hleft) (by exact_mod_cast hright)

end Sys2Proof.Machine
end

section
/-! PROOFS. The samples (R908 to R914): one pair, pairs in order, silence. -/

namespace Sys2Proof.Machine

/-! One sample pair: the generators advanced, then the mixed sum stored in two slots. -/

section
variable (p : Psg) (k : Nat)

/-- What the next pair stores in its two slots (R914). -/
def Psg.nextSample : Sample :=
  if p.advanceCounters.mix ≤ Config.sampleMax then BitVec.ofNat 16 p.advanceCounters.mix
  else Config.overflowSample p.sampleDraws

theorem Psg.generatePair_buffer :
    (p.generatePair k).buffer = (p.buffer.set (2 * k) p.nextSample).set (2 * k + 1) p.nextSample := by
  rw [Psg.nextSample, Psg.generatePair, Psg.storePair]
  generalize p.advanceCounters.mix = sum
  rw [Psg.advanceCounters_eq]

/-- The noise generator after one pair (R909). -/
theorem Psg.generatePair_noise :
    if p.noiseCount + p.baseStep > p.noiseStep
      then (p.generatePair k).seed = lfsrNext p.cfg.noiseTap p.seed ∧
        (p.generatePair k).noiseCount = p.noiseCount + p.baseStep - p.noiseStep
      else (p.generatePair k).seed = p.seed ∧ (p.generatePair k).noiseCount = p.noiseCount + p.baseStep := by
  rw [Psg.generatePair, Psg.storePair_frame, Psg.advanceCounters_eq, Psg.noiseAdvance_eq]
  split
  · exact ⟨rfl, rfl⟩
  · exact ⟨rfl, rfl⟩

/-- Whether a channel is heard (R913). -/
def Psg.sounds (ch : Channel) : Bool :=
  (p.toneGate.get ch && p.active.get ch) || (p.noiseGate.get ch && p.noiseBit)

theorem Psg.contribution_eq (ch : Channel) : p.contribution ch = if p.sounds ch then p.volume.get ch else 0 := rfl

/-- The mixed sum is that of the volumes of the channels heard (R913). -/
theorem Psg.mix_eq_sum : p.mix = (([Channel.a, .b, .c].filter p.sounds).map p.volume.get).sum := by
  simp only [Psg.mix, Psg.contribution_eq]
  cases ha : p.sounds .a <;> cases hb : p.sounds .b <;> cases hc : p.sounds .c <;> simp [ha, hb, hc, Nat.add_assoc]

theorem Psg.advanceCounters_sounds (ch : Channel) : p.advanceCounters.sounds ch =
    ((p.toneGate.get ch && (p.generatePair k).active.get ch) ||
      (p.noiseGate.get ch && (p.generatePair k).seed.getLsbD 0)) := by
  rw [Psg.generatePair, Psg.storePair_frame, Psg.sounds, Psg.advanceCounters_eq]
  rfl

end

/-- Two neighbouring slots replaced by one value. -/
theorem set_set_succ {α : Type} (l : List α) (v : α) {i : Nat} (h : i + 2 ≤ l.length) :
    (l.set i v).set (i + 1) v = l.take i ++ v :: v :: l.drop (i + 2) := by
  have hone : i < l.length := by omega
  have htwo : i + 1 < (l.set i v).length := by rw [List.length_set]; omega
  rw [List.set_eq_take_append_cons_drop, if_pos htwo, List.take_set, List.drop_set_of_lt (by omega),
    List.set_eq_take_append_cons_drop, List.length_take, if_pos (by omega)]
  simp [List.take_take]

theorem Psg.generatePair_buffer_eq {p : Psg} {k : Nat} (h : 2 * (k + 1) ≤ p.buffer.length) :
    (p.generatePair k).buffer =
      p.buffer.take (2 * k) ++ p.nextSample :: p.nextSample :: p.buffer.drop (2 * (k + 1)) :=
  (p.generatePair_buffer k).trans (set_set_succ _ _ (by omega))

/-- Settles O56: one pair is the noise step, the three tone steps, and the mixed sum in slots 0 and 1. -/
theorem generateOnePair : Obligations.GenerateOnePair := by
  intro p hroom hlength
  have htwo : p.generate 2 = .ok (p.generatePair 0) := p.generate_ok (n := 2) hroom
  have hthree : p.generate 3 = .ok (p.generatePair 0) := p.generate_ok (n := 3) hroom
  refine ⟨p.generatePair 0, htwo, hthree, p.generatePair_noise 0, fun ch => ?_,
    ⟨p.nextSample, fun hfits => ?_, ?_⟩, ?_⟩
  · obtain ⟨hcount, hactive⟩ := p.advanceCounters_tone ch
    split
    · next h => rw [if_pos h] at hcount hactive; exact ⟨hactive, hcount⟩
    · next h => rw [if_neg h] at hcount hactive; exact ⟨hactive, hcount⟩
  · have hvolume : p.advanceCounters.volume = p.volume := by rw [Psg.advanceCounters_eq]
    rw [← funext (p.advanceCounters_sounds 0), ← hvolume, ← Psg.mix_eq_sum] at hfits ⊢
    exact if_pos hfits
  · rw [Psg.generatePair_buffer_eq (by omega), Nat.mul_zero, List.take_zero, List.nil_append]
  · rw [Psg.generatePair, Psg.storePair_frame, Psg.advanceCounters_eq]
    exact ⟨rfl, rfl, rfl, rfl, rfl, rfl, rfl, rfl, rfl, rfl, rfl⟩

/-! Pairs in order: what they store and where they leave the generators depends neither on the slots they are stored in
nor on what the buffer holds (R908). -/

theorem Psg.advanceCounters_withoutBuffer (p : Psg) :
    p.withoutBuffer.advanceCounters = p.advanceCounters.withoutBuffer := by
  simp only [Psg.withoutBuffer, Psg.advanceCounters, Psg.toneAdvance_eq, Psg.noiseAdvance_eq]

section
variable {p q : Psg} (h : p.withoutBuffer = q.withoutBuffer)
include h

theorem Psg.advanceCounters_congr : p.advanceCounters.withoutBuffer = q.advanceCounters.withoutBuffer := by
  rw [← Psg.advanceCounters_withoutBuffer, h, Psg.advanceCounters_withoutBuffer]

theorem Psg.advanceCounters_mix_congr : p.advanceCounters.mix = q.advanceCounters.mix :=
  (congrArg Psg.mix (Psg.advanceCounters_congr h) :)

theorem Psg.nextSample_congr : p.nextSample = q.nextSample := by
  have hdraws : p.sampleDraws = q.sampleDraws := (congrArg Psg.sampleDraws h :)
  rw [Psg.nextSample, Psg.nextSample, Psg.advanceCounters_mix_congr h, hdraws]

theorem Psg.generatePair_congr (j k : Nat) : (p.generatePair j).withoutBuffer = (q.generatePair k).withoutBuffer := by
  have hstored (r : Psg) (k : Nat) : (r.generatePair k).withoutBuffer =
      (r.advanceCounters.withoutBuffer.storePair 0 r.advanceCounters.mix).withoutBuffer := rfl
  rw [hstored, hstored, Psg.advanceCounters_congr h, Psg.advanceCounters_mix_congr h]

end

theorem Psg.generatePairs_congr {p q : Psg} (h : p.withoutBuffer = q.withoutBuffer) (j k n : Nat) :
    (p.generatePairs j n).withoutBuffer = (q.generatePairs k n).withoutBuffer := by
  induction n generalizing p q j k with
  | zero => exact h
  | succ n ih => exact ih (Psg.generatePair_congr h j k) (j + 1) (k + 1)

/-- What the next `n` pairs store, slot after slot (R914). -/
def Psg.nextSamples (p : Psg) : Nat → List Sample
  | 0 => []
  | n + 1 => p.nextSample :: p.nextSample :: Psg.nextSamples (p.generatePair 0) n

@[simp] theorem Psg.nextSamples_length (p : Psg) (n : Nat) : (p.nextSamples n).length = 2 * n := by
  induction n generalizing p with
  | zero => rfl
  | succ n ih => simp [Psg.nextSamples, ih, Nat.mul_succ]

theorem Psg.nextSamples_congr {p q : Psg} (h : p.withoutBuffer = q.withoutBuffer) (n : Nat) :
    p.nextSamples n = q.nextSamples n := by
  induction n generalizing p q with
  | zero => rfl
  | succ n ih => rw [Psg.nextSamples, Psg.nextSamples, Psg.nextSample_congr h, ih (Psg.generatePair_congr h 0 0)]

/-- The buffer after `n` pairs: their samples from slot 2k on, every other slot as it was (R908, R914). -/
theorem Psg.generatePairs_buffer {p : Psg} {k n : Nat} (h : 2 * (k + n) ≤ p.buffer.length) :
    (p.generatePairs k n).buffer = p.buffer.take (2 * k) ++ p.nextSamples n ++ p.buffer.drop (2 * (k + n)) := by
  induction n generalizing p k with
  | zero => simp [Psg.generatePairs, Psg.nextSamples]
  | succ n ih =>
    let own := p.buffer.take (2 * k) ++ [p.nextSample, p.nextSample]
    have hown : own.length = 2 * (k + 1) := by
      simp only [own, List.length_append, List.length_take, List.length_cons, List.length_nil]
      omega
    have hpair : (p.generatePair k).buffer = own ++ p.buffer.drop (2 * (k + 1)) :=
      (Psg.generatePair_buffer_eq (by omega)).trans (by simp [own])
    have hroom : 2 * (k + 1 + n) ≤ (p.generatePair k).buffer.length := by
      rw [hpair, List.length_append, hown, List.length_drop]
      omega
    have hrest : (own ++ p.buffer.drop (2 * (k + 1))).drop (2 * (k + 1 + n)) = p.buffer.drop (2 * (k + (n + 1))) := by
      rw [List.drop_append, List.drop_eq_nil_of_le (by omega), hown, List.drop_drop, List.nil_append]
      congr 1
      omega
    rw [Psg.generatePairs, ih hroom, hpair, List.take_left' hown, hrest, Psg.nextSamples,
      Psg.nextSamples_congr (Psg.generatePair_congr rfl k 0)]
    simp [own]

section
variable (p : Psg)

@[simp] theorem Psg.generatePair_buffer_length (k : Nat) : (p.generatePair k).buffer.length = p.buffer.length := by
  rw [Psg.generatePair_buffer, List.length_set, List.length_set]

@[simp] theorem Psg.generatePairs_buffer_length (k n : Nat) :
    (p.generatePairs k n).buffer.length = p.buffer.length := by
  induction n with
  | zero => rfl
  | succ n ih => rw [Psg.generatePairs_succ, Psg.generatePair_buffer_length, ih]

end

section
variable {p : Psg} {k n : Nat} (h : 2 * (k + n) ≤ p.buffer.length)
include h

theorem Psg.generatePairs_buffer_take : (p.generatePairs k n).buffer.take (2 * k) = p.buffer.take (2 * k) := by
  rw [Psg.generatePairs_buffer h, List.append_assoc, List.take_left' (by rw [List.length_take]; omega)]

theorem Psg.generatePairs_buffer_drop_take :
    ((p.generatePairs k n).buffer.drop (2 * k)).take (2 * n) = p.nextSamples n := by
  rw [Psg.generatePairs_buffer h, List.append_assoc, List.drop_left' (by rw [List.length_take]; omega),
    List.take_left' (p.nextSamples_length n)]

theorem Psg.generatePairs_buffer_drop :
    (p.generatePairs k n).buffer.drop (2 * (k + n)) = p.buffer.drop (2 * (k + n)) := by
  rw [Psg.generatePairs_buffer h, List.drop_left' ?_]
  rw [List.length_append, Psg.nextSamples_length, List.length_take]
  omega

end

/-- An odd count asks for the same whole pairs as the even count below it (R908). -/
theorem Psg.generate_whole_pairs {p : Psg} {n : Nat} (h : 2 * n ≤ p.bufferLength) :
    p.generate (2 * n : Nat) = .ok (p.generatePairs 0 n) ∧
      p.generate (2 * n + 1 : Nat) = .ok (p.generatePairs 0 n) := by
  have heven : 2 * n / 2 = n := by omega
  have hodd : (2 * n + 1) / 2 = n := by omega
  rw [p.generate_ok (by rwa [heven]), p.generate_ok (by rwa [hodd]), heven, hodd]
  exact ⟨rfl, rfl⟩

/-- Settles O57: the pairs after the first `m` start from the block those leave, whatever the slots they go to. -/
theorem generateInOrder : Obligations.GenerateInOrder := by
  refine ⟨fun p m n hroom hlength => ?_, fun p => Psg.generate_whole_pairs (n := 0) (Nat.zero_le _)⟩
  let q1 := p.generatePairs 0 m
  have hfirst : p.generatePairs 0 (m + n) = q1.generatePairs m n := by rw [Psg.generatePairs_add, Nat.zero_add]
  have hlength1 : q1.buffer.length = p.buffer.length := p.generatePairs_buffer_length 0 m
  have hroom1 : q1.bufferLength = p.bufferLength := (congrArg Psg.bufferLength (p.generatePairs_settings 0 m) :)
  have hsame : (q1.generatePairs m n).withoutBuffer = (q1.generatePairs 0 n).withoutBuffer :=
    Psg.generatePairs_congr rfl m 0 n
  obtain ⟨heven, hodd⟩ := Psg.generate_whole_pairs hroom
  obtain ⟨hm, -⟩ := Psg.generate_whole_pairs (p := p) (n := m) (by omega)
  obtain ⟨hn, -⟩ := Psg.generate_whole_pairs (p := q1) (n := n) (by omega)
  rw [hfirst] at heven hodd
  refine ⟨_, q1, _, heven, hodd, hm, hn, (congrArg Psg.toneCount hsame :), (congrArg Psg.active hsame :),
    (congrArg Psg.noiseCount hsame :), (congrArg Psg.seed hsame :), (q1.generatePairs_buffer_length m n).trans hlength1,
    Psg.generatePairs_buffer_take (by omega), fun _ => ?_, ?_⟩
  · have hsecond := Psg.generatePairs_buffer_drop_take (p := q1) (k := 0) (n := n) (by omega)
    rw [Nat.mul_zero, List.drop_zero] at hsecond
    exact (Psg.generatePairs_buffer_drop_take (by omega)).trans hsecond.symm
  · rw [← hfirst]
    simpa using Psg.generatePairs_buffer_drop (p := p) (k := 0) (n := m + n) (by omega)

/-! Silence (R913). -/

/-- No gate of the block is enabled. -/
def Psg.Gated (p : Psg) : Prop := ∀ ch, p.toneGate.get ch = false ∧ p.noiseGate.get ch = false

section
variable {p : Psg}

/-- A mixer register with bits 0 to 5 set disables every gate: active-low (R122, R126). -/
theorem PsgInv.gated (hp : PsgInv p) (h : ∀ i < 6, p.regs[7].getLsbD i = true) : p.Gated := by
  obtain ⟨htone, hnoise⟩ := hp.gates
  have hgate (i : Nat) (hi : i < 6) : gateOf p.regs[7] i = false := by rw [gateOf, h i hi]; rfl
  intro ch
  rw [htone, hnoise]
  cases ch
  case a => exact ⟨hgate 0 (by decide), hgate 3 (by decide)⟩
  case b => exact ⟨hgate 1 (by decide), hgate 4 (by decide)⟩
  case c => exact ⟨hgate 2 (by decide), hgate 5 (by decide)⟩

variable (h : p.Gated)
include h

theorem Psg.Gated.generatePair (k : Nat) : (p.generatePair k).Gated := by
  have htone : (p.generatePair k).toneGate = p.toneGate := (congrArg Psg.toneGate (p.generatePair_settings k) :)
  have hnoise : (p.generatePair k).noiseGate = p.noiseGate := (congrArg Psg.noiseGate (p.generatePair_settings k) :)
  intro ch
  rw [htone, hnoise]
  exact h ch

/-- No channel is heard, so the sum is 0 and fits its slot (R913). -/
theorem Psg.Gated.nextSample : p.nextSample = 0x0000#16 := by
  have hsilent : p.advanceCounters.sounds = fun _ => false := by
    funext ch
    obtain ⟨htone, hnoise⟩ := h ch
    rw [p.advanceCounters_sounds 0, htone, hnoise]
    simp
  have hmix : p.advanceCounters.mix = 0 := by rw [Psg.mix_eq_sum, hsilent]; rfl
  rw [Psg.nextSample, hmix]
  rfl

end

theorem Psg.Gated.nextSamples {p : Psg} (h : p.Gated) (n : Nat) :
    p.nextSamples n = List.replicate (2 * n) 0x0000#16 := by
  induction n generalizing p with
  | zero => rfl
  | succ n ih => rw [Psg.nextSamples, h.nextSample, ih (h.generatePair 0)]; rfl

/-- Settles O58: with no gate enabled every pair stores 0. -/
theorem disabledGatesAreSilent : Obligations.DisabledGatesAreSilent := by
  intro p hp hmixer n hroom
  have hbuffer := Psg.generatePairs_buffer (p := p) (k := 0) (n := n / 2) (by rw [hp.buffer]; omega)
  refine ⟨_, p.generate_ok hroom, fun k hk => ?_⟩
  rw [hbuffer, (hp.gated hmixer).nextSamples, Nat.mul_zero, List.take_zero, List.nil_append,
    List.getElem?_append_left (by rwa [List.length_replicate]), List.getElem?_replicate, if_pos hk]

end Sys2Proof.Machine
end

section
/-! PROOFS. The PSG register, clock and buffer calls (R902 to R907, R918), and the two blocks after reset. -/

namespace Sys2Proof.Machine

/-! The formulas of R126 as numbers. -/

theorem toneStepOf_eq (cfg : PsgConfig) (low high : Byte) :
    toneStepOf cfg low high = (high.toNat * 256 + low.toNat) * 2 ^ cfg.stepBias := by
  have hword : (high ++ low : BitVec 16).toNat = high.toNat * 256 + low.toNat := by
    rw [Nat.mul_comm]
    exact wordOf_toNat high low
  rw [toneStepOf, Nat.shiftLeft_eq, hword]

theorem noiseStepOf_eq (cfg : PsgConfig) (period : Byte) (baseStep : Nat) :
    noiseStepOf cfg period baseStep = max (period.toNat * 2 ^ cfg.stepBias) baseStep := by
  rw [noiseStepOf, Nat.shiftLeft_eq]

theorem gateOf_eq (mixer : Byte) (i : Nat) : gateOf mixer i = !mixer.getLsbD i := by
  rw [gateOf, Config.mixerActiveLow, Bool.bne_true]

theorem volumeOf_eq (cfg : PsgConfig) (r : Byte) :
    volumeOf cfg r = cfg.volumeTable.toList.getD (r.toNat % 16 * 2) 0 * 2 ^ cfg.volumeBias := by
  have hlevel : (levelOf r).toNat = r.toNat % 16 := by simp [levelOf]
  have hindex : r.toNat % 16 * 2 < 32 := by omega
  simp [volumeOf, Nat.shiftLeft_eq, hlevel, hindex]

/-! What a recomputation gives each channel (R904): A, B, C own registers 0 and 1, 2 and 3, 4 and 5 for the tone step,
8, 9, 10 for the volume, bits 0, 1, 2 of register 7 for the tone gate and bits 3, 4, 5 for the noise gate. -/

/-- The channel's number: A 0, B 1, C 2 (R4). -/
def Channel.index : Channel → Nat
  | .a => 0
  | .b => 1
  | .c => 2

/-- The byte of register `k`. -/
def Psg.reg (p : Psg) (k : Nat) : Byte := p.regs.toList.getD k 0#8

section
variable (p : Psg) {n : Nat} (hn : n < 16) (ch : Channel)
include hn

/-- Each register recomputes what it owns and nothing else (R904). -/
theorem Psg.recompute_get :
    (p.recompute n).toneStep.get ch = (if n = 2 * ch.index ∨ n = 2 * ch.index + 1
      then toneStepOf p.cfg (p.reg (2 * ch.index)) (p.reg (2 * ch.index + 1)) else p.toneStep.get ch) ∧
    (p.recompute n).volume.get ch = (if n = 8 + ch.index
      then volumeOf p.cfg (p.reg (8 + ch.index)) else p.volume.get ch) ∧
    (p.recompute n).envEnable.get ch = (if n = 8 + ch.index
      then envEnableOf (p.reg (8 + ch.index)) else p.envEnable.get ch) ∧
    (p.recompute n).toneGate.get ch = (if n = 7 then gateOf (p.reg 7) ch.index else p.toneGate.get ch) ∧
    (p.recompute n).noiseGate.get ch = (if n = 7 then gateOf (p.reg 7) (ch.index + 3) else p.noiseGate.get ch) := by
  interval_cases n <;> cases ch <;>
    simp [Psg.recompute, Psg.deriveVolume, Psg.reg, Channel.index, PerChannel.get, PerChannel.set]

omit ch in
theorem Psg.recompute_noiseStep : (p.recompute n).noiseStep =
    if n = 6 then noiseStepOf p.cfg (p.reg 6) p.baseStep else p.noiseStep := by
  interval_cases n <;> simp [Psg.recompute, Psg.deriveVolume, Psg.reg]

end

section
variable (p : Psg) {n : Nat} (hn : n < 16) (v : Byte)

/-- What a written register reads as (R903). -/
theorem Psg.written_readRegister_same : (p.written hn v).readRegister n = .ok v := by
  rw [Psg.readRegister_ok _ hn]
  simp

theorem Psg.written_readRegister_other {k : Nat} (hk : k ≠ n) :
    (p.written hn v).readRegister k = p.readRegister k := by
  by_cases hbound : k < 16
  · rw [Psg.readRegister_ok _ hbound, Psg.readRegister_ok _ hbound]
    simp [hk.symm]
  · have hbad : ¬(0 ≤ (k : Int) ∧ (k : Int) < 16) := by omega
    rw [Psg.readRegister, Psg.readRegister, dif_neg hbad, dif_neg hbad]

end

/-- Settles O53: the write is the byte stored, then what its register owns recomputed by the formulas of R126. -/
theorem registerWriteResult : Obligations.RegisterWriteResult := by
  intro p n value hn hvalue
  let stored : Psg := { p with regs := p.regs.set n (BitVec.ofNat 8 value) hn }
  have hregs : (stored.recompute n).regs = stored.regs := by rw [Psg.recompute_frame]
  refine ⟨p.written hn (BitVec.ofNat 8 value), p.writeRegister_ok hn hvalue, p.written_readRegister_same hn _,
    fun k hk => p.written_readRegister_other hn _ hk, fun g hg => ?_, ?_, ?_⟩
  · have hget (ch : Channel) := stored.recompute_get hn ch
    simp only [toneStepOf_eq, volumeOf_eq, gateOf_eq] at hget
    simp only [List.mem_cons, List.not_mem_nil, or_false] at hg
    rw [Psg.written, hregs]
    rcases hg with rfl | rfl | rfl
    · exact hget .a
    · exact hget .b
    · exact hget .c
  · have hnoise := stored.recompute_noiseStep hn
    rw [noiseStepOf_eq] at hnoise
    rw [Psg.written, hregs]
    exact hnoise
  · rw [Psg.written, Psg.recompute_frame]
    exact ⟨rfl, rfl, rfl, rfl, rfl, rfl, rfl, rfl, rfl⟩

/-! Rejected calls (R918). -/

/-- A rejected PSG operation returns its kind and changes nothing (R1004). -/
theorem State.psgCall_error (s : State) {r : Except InvalidArgument Psg} {k : InvalidArgument} (h : r = .error k) :
    s.psgCall r = (.invalidArgument k, s) := by rw [h, State.psgCall]

/-- An operation that succeeds replaces the PSG block alone. -/
theorem State.psgCall_ok (s : State) {r : Except InvalidArgument Psg} {p : Psg} (h : r = .ok p) :
    s.psgCall r = (.ok, { s with psg := p }) := by rw [h, State.psgCall]

section
variable (p : Psg) {address value n : Int}

theorem Psg.writeRegister_badAddress (h : ¬(0 ≤ address ∧ address < 16)) :
    p.writeRegister address value = .error .badAddress := dif_neg h

theorem Psg.readRegister_badAddress (h : ¬(0 ≤ address ∧ address < 16)) :
    p.readRegister address = .error .badAddress := dif_neg h

/-- The address is checked before the value (R1008). -/
theorem Psg.writeRegister_badValue (ha : 0 ≤ address ∧ address < 16) (hv : ¬(0 ≤ value ∧ value ≤ 255)) :
    p.writeRegister address value = .error .badValue := (dif_pos ha).trans (if_neg hv)

theorem Psg.setClock_badClock (h : n ≤ 0) : p.setClock n = .error .badClock := if_pos h

theorem Psg.setBufferLength_badLength (h : n < 0) : p.setBufferLength n = .error .badLength := if_pos h

theorem Psg.generate_badLength (h : n < 0) : p.generate n = .error .badLength := if_pos h

theorem Psg.generate_bufferTooSmall (hn : 0 ≤ n) (h : (p.bufferLength : Int) < 2 * (n / 2)) :
    p.generate n = .error .bufferTooSmall := (if_neg (by omega)).trans (if_pos (by omega))

end

/-- Settles O54, call by call. -/
theorem rejectedCallsChangeNothing : Obligations.RejectedCallsChangeNothing := by
  intro s address value n
  refine ⟨fun ha => ?_, fun hlo hhi hv => ?_, fun hn => ?_, fun hn => ⟨?_, ?_⟩, fun hn hroom => ?_⟩
  · have hbad : ¬(0 ≤ address ∧ address < 16) := by omega
    refine ⟨s.psgCall_error (s.psg.writeRegister_badAddress hbad), ?_⟩
    rw [hostCall_psgReadRegister, Psg.readReply, s.psg.readRegister_badAddress hbad]
  · exact s.psgCall_error (s.psg.writeRegister_badValue ⟨hlo, hhi⟩ (by omega))
  · exact s.psgCall_error (s.psg.setClock_badClock hn)
  · exact s.psgCall_error (s.psg.setBufferLength_badLength hn)
  · exact s.psgCall_error (s.psg.generate_badLength hn)
  · exact s.psgCall_error (s.psg.generate_bufferTooSmall hn hroom)

/-! The clock and the buffer (R905 to R907). -/

section
variable (p : Psg) {n : Nat}

theorem Psg.setClock_ok (h : 0 < n) :
    p.setClock n = .ok { p with clock := n, baseStep := baseStepOf p.cfg n } := if_neg (by omega)

theorem Psg.setBufferLength_ok :
    p.setBufferLength n = .ok { p with bufferLength := n, buffer := List.replicate n 0x0000#16 } := if_neg (by omega)

end

/-- Settles O55, call by call. -/
theorem clockAndBufferCalls : Obligations.ClockAndBufferCalls := fun s =>
  ⟨fun _ hpos => ⟨s.psgCall_ok (s.psg.setClock_ok hpos), s.psgCall_error (s.psg.setClock_badClock le_rfl)⟩,
    fun _ => s.psgCall_ok s.psg.setBufferLength_ok, rfl⟩

/-! The state after reset and after initialisation (R901, R1100 to R1102). -/

/-- A constructed PSG block meets its invariant, whatever its configuration. -/
theorem PsgInv.construct (cfg : PsgConfig) : PsgInv (Psg.construct cfg) where
  seed := Psg.construct_seed_ne_zero cfg
  buffer := rfl
  clock := ⟨Psg.construct_clock_pos cfg, rfl⟩
  toneStep := by simp [Psg.construct, toneStepOf]
  noiseStep := by simp [Psg.construct]
  gates := by simp [Psg.construct, gateOf_eq]
  volume := by simp [Psg.construct]
  envEnable := by simp [Psg.construct, envEnableOf]
  counters := ⟨le_rfl, fun ch => by cases ch <;> exact le_rfl⟩

/-- A constructed CPU block meets its invariant: nothing in memory, no diagnostic, no fault. -/
theorem CpuInv.construct (cpu : CpuConfig) (psg : PsgConfig) : CpuInv (State.construct cpu psg) where
  memory := rfl
  breaks := fun _ he => (nomatch he)
  unimplemented := fun _ he => (nomatch he)
  faulted := fun hf => (nomatch hf)
  returned := fun hr => absurd rfl hr

/-- Settles O13: both blocks are as constructed. -/
theorem resetMeetsInvariant : Obligations.ResetMeetsInvariant :=
  ⟨CpuInv.construct Config.defaultCpu Config.defaultPsg, PsgInv.construct Config.defaultPsg⟩

/-- Settles O15: initialisation writes the registers, CYC and FAULTED, and leaves every other field. -/
theorem initializeSetsTheCpuState : Obligations.InitializeSetsTheCpuState := fun _ =>
  ⟨_, rfl, rfl, rfl, rfl, rfl, rfl, rfl, rfl, rfl, rfl, rfl, rfl, rfl, rfl, rfl, rfl⟩

end Sys2Proof.Machine
end

section
/-! PROOFS. Flag, break and no-operation instructions (48_flags_and_system.md). -/

namespace Sys2Proof.Machine

theorem flagForms_exec (s : State) : ∀ f ∈ flagForms, f.instr.opcode = f.opcode ∧
    exec f.instr s = .next (s.setFlag f.operand.1 f.operand.2) := by
  intro f hf
  simp only [flagForms, List.mem_cons, List.not_mem_nil, or_false] at hf
  rcases hf with rfl | rfl | rfl | rfl | rfl | rfl | rfl | rfl | rfl <;> exact ⟨rfl, rfl⟩

/-- Settles O45: each form writes its flag. -/
theorem flagInstructionResult : Obligations.FlagInstructionResult := by
  intro s f hf
  obtain ⟨hop, hexec⟩ := flagForms_exec s f hf
  exact ⟨hop, _, hexec, by simp, rfl, ⟨rfl, rfl, rfl⟩, ⟨(List.append_nil _).symm, rfl⟩,
    (Frame.refl s).setFlag (by simp) _⟩

/-- Consuming operand bytes moves PC alone (R108). -/
theorem Frame.advance (s : State) (n : Nat) {regs : List Reg} {flags : List Flag} {stored : List Word} :
    Frame s (s.advance n) regs flags stored := { Frame.refl s with }

/-- Settles O46: BRK skips a byte, sets B and emits its diagnostic; NOP and AUG by their definition. -/
theorem breakAndNoOperationResult : Obligations.BreakAndNoOperationResult := by
  intro s
  have hframe : Frame s ((s.advance 1).setFlag .b true) [] [.b] [] :=
    (Frame.advance s 1).setFlag (by simp) true
  refine ⟨⟨rfl, _, rfl, rfl, ?_, rfl, rfl, rfl, ⟨(List.append_nil _).symm, rfl⟩, { hframe with }⟩,
    ⟨rfl, rfl⟩, rfl, rfl⟩
  exact (State.setFlag_flag (s.advance 1) .b true .b).trans (if_pos rfl)

end Sys2Proof.Machine
end

section
/-! PROOFS. Loads, stores and compares (49_load_store_arithmetic.md). -/

namespace Sys2Proof.Machine

/-! LDA, LDX, LDY, LDZ (R850 to R853). -/

/-- A register written by name leaves the port's record, PC and the outcome alone. -/
theorem ReadOperand.setReg {s t : State} {src : Source} (h : ReadOperand s t src) (r : Reg) (v : Byte) :
    ReadOperand s (t.setReg r v) src := by cases r <;> exact h

theorem load_result (r : Reg) (src : Source) (s : State) :
    ∃ t, load (fun u => u.setReg r) src s = .next t ∧ t.reg r = (s.load src).1 ∧ NZ8 t (s.load src).1 ∧
      ReadOperand s t src ∧ Frame s t [r] [.n, .z] [] := by
  refine ⟨_, load_eq s _ src, ?_, nz8_setNZ8 _ _, ((ReadOperand.load s src).setReg r _).setNZ8 _,
    ((Frame.load s src).setReg (by simp) _).setNZ8 (by simp) (by simp) _⟩
  rw [State.setNZ8_reg, State.setReg_reg, if_pos rfl]

/-- Settles O47: each form loads its register. -/
theorem loadResult : Obligations.LoadResult := by
  intro v b d w s g hg f hf
  simp only [List.mem_cons, List.not_mem_nil, or_false] at hg
  have hrun : f.instr.opcode = f.opcode ∧ exec f.instr s = load (fun u => u.setReg g.2) f.operand s := by
    rcases hg with rfl | rfl | rfl | rfl
    · exact ldaForms_exec s v b d w f hf
    · exact ldxForms_exec s v b w f hf
    · exact ldyForms_exec s v b w f hf
    · exact ldzForms_exec s v w f hf
  obtain ⟨hop, hexec⟩ := hrun
  exact ⟨hop, hexec ▸ load_result g.2 f.operand s⟩

/-! STA, STX, STY, STZ (R854 to R857). -/

/-- Finding an effective address changes no register, flag or byte of memory (R413 to R424). -/
theorem Frame.ea (s : State) (m : AddrMode) {regs : List Reg} {flags : List Flag} {stored : List Word} :
    Frame s (s.ea m).2 regs flags stored := by
  rw [State.ea_frame]
  exact { Frame.refl s with }

theorem completed_ea (s : State) (m : AddrMode) : Completed s (s.ea m).2 := by
  rw [State.ea_frame]
  exact ⟨rfl, rfl, rfl⟩

/-- Settles O48: each form finds its effective address, then writes its register there. -/
theorem storeResult : Obligations.StoreResult := by
  intro b d w s g hg f hf
  simp only [List.mem_cons, List.not_mem_nil, or_false] at hg
  have hrun : f.instr.opcode = f.opcode ∧ exec f.instr s = store (s.reg g.2) f.operand s := by
    rcases hg with rfl | rfl | rfl | rfl
    · exact staForms_exec s b d w f hf
    · exact stxForms_exec s b w f hf
    · exact styForms_exec s b w f hf
    · exact stzForms_exec s b w f hf
  obtain ⟨hop, hexec⟩ := hrun
  exact ⟨hop, _, hexec.trans (store_eq s _ _), by simp, (Frame.ea s f.operand).memWrite (by simp) _,
    completed_ea s f.operand, rfl, rfl, rfl⟩

/-! CMP, CPX, CPY, CPZ (R864 to R868). -/

section
variable {s t : State} {src : Source}

theorem ReadOperand.setCompare (h : ReadOperand s t src) (r v : Byte) : ReadOperand s (t.setCompare r v) src := h

theorem Frame.setCompare {regs : List Reg} (h : Frame s t regs [.n, .z, .c] []) (r v : Byte) :
    Frame s (t.setCompare r v) regs [.n, .z, .c] [] := (h.setFlag (by simp) _).setNZ8 (by simp) (by simp) _

end

theorem nz8_setCompare (s : State) (r v : Byte) : NZ8 (s.setCompare r v) (r - v) := nz8_setNZ8 _ _

/-- A difference modulo 256 (R864). -/
theorem sub_eq_ofNat (r v : Byte) : r - v = BitVec.ofNat 8 (256 + r.toNat - v.toNat) := by bv_omega

theorem compare_result (r : Byte) (src : Source) (s : State) :
    ∃ t, compare r src s = .next t ∧ (t.flag .c = true ↔ (s.load src).1.toNat ≤ r.toNat) ∧
      NZ8 t (BitVec.ofNat 8 (256 + r.toNat - (s.load src).1.toNat)) ∧ ReadOperand s t src ∧
      Frame s t [] [.n, .z, .c] [] := by
  refine ⟨_, compare_eq s r src, ?_, ?_, (ReadOperand.load s src).setCompare _ _, (Frame.load s src).setCompare _ _⟩
  · rw [State.setCompare_flag_c, decide_eq_true_iff]
  · rw [← sub_eq_ofNat]
    exact nz8_setCompare _ _ _

/-- Settles O52: each form compares its register. -/
theorem compareResult : Obligations.CompareResult := by
  intro v b w s g hg f hf
  simp only [List.mem_cons, List.not_mem_nil, or_false] at hg
  have hrun : f.instr.opcode = f.opcode ∧ exec f.instr s = compare (s.reg g.2) f.operand s := by
    rcases hg with rfl | rfl | rfl | rfl
    · exact cmpForms_exec s v b w f hf
    · exact cpxForms_exec s v b w f hf
    · exact cpyForms_exec s v b w f hf
    · exact cpzForms_exec s v b w f hf
  obtain ⟨hop, hexec⟩ := hrun
  exact ⟨hop, hexec ▸ compare_result (s.reg g.2) f.operand s⟩

end Sys2Proof.Machine
end

section
/-! PROOFS. ADC and SBC, binary and decimal (R860 to R863). -/

namespace Sys2Proof.Machine

/-! The frame of an addition or subtraction. -/

section
variable {s t : State} {src : Source}

theorem ReadOperand.setAlu (h : ReadOperand s t src) (o : AluOut) : ReadOperand s (t.setAlu o) src := h

theorem Frame.setAlu (h : Frame s t [.a] [.n, .v, .z, .c] []) (o : AluOut) :
    Frame s (t.setAlu o) [.a] [.n, .v, .z, .c] [] :=
  (((h.setFlag (by simp) _).setFlag (by simp) _).setA (by simp) _).setNZ8 (by simp) (by simp) _

end

/-- What ADC and SBC share: the result goes to A, N and Z follow it, C and V are those computed. -/
theorem setAlu_result {s : State} {src : Source} {o : AluOut} {r : Result}
    (h : r = .next ((s.load src).2.setAlu o)) :
    ∃ t, r = .next t ∧ t.a = o.value ∧ t.flag .c = o.carry ∧ t.flag .v = o.overflow ∧ NZ8 t t.a ∧
      ReadOperand s t src ∧ Frame s t [.a] [.n, .v, .z, .c] [] :=
  ⟨_, h, rfl, State.setAlu_flag_c _ o, State.setAlu_flag_v _ o, nz8_setNZ8 _ _, (ReadOperand.load s src).setAlu o,
    (Frame.load s src).setAlu o⟩

/-! Binary addition and subtraction as numbers (R860, R861). -/

theorem and_0x80_ne_zero_iff (x : Byte) : x &&& 0x80#8 ≠ 0x00#8 ↔ x.msb = true := by
  have hmask : x &&& 0x80#8 = if x.getLsbD 7 then 0x80#8 else 0#8 := BitVec.and_twoPow x 7
  rw [hmask, BitVec.msb_eq_getLsbD_last]
  cases x.getLsbD 7 <;> simp

/-- The sign rule says that both operands have the sign the result has not. -/
theorem signRule_iff (a v r : Byte) :
    (a ^^^ r) &&& (v ^^^ r) &&& 0x80#8 ≠ 0x00#8 ↔ a.msb ≠ r.msb ∧ v.msb ≠ r.msb := by
  rw [and_0x80_ne_zero_iff, BitVec.msb_and, BitVec.msb_xor, BitVec.msb_xor]
  simp

/-- The sign rule says that the signed sum left -128..127 (R860). -/
theorem signRule_iff_signed (a v : Byte) (c : Bool) :
    let r := BitVec.ofNat 8 (a.toNat + v.toNat + c.toNat)
    (a ^^^ r) &&& (v ^^^ r) &&& 0x80#8 ≠ 0x00#8 ↔
      a.toInt + v.toInt + c.toNat < -128 ∨ a.toInt + v.toInt + c.toNat > 127 := by
  intro r
  have hr : r.toNat = (a.toNat + v.toNat + c.toNat) % 256 := BitVec.toNat_ofNat _ 8
  have hc := Bool.toNat_le c
  simp only [signRule_iff, ne_eq, BitVec.msb_eq_decide, decide_eq_decide, hr, BitVec.toInt_eq_toNat_cond]
  split <;> split <;> omega

section
variable (a v : Byte) (c : Bool)

theorem addBinary_carry_iff : (addBinary a v c).carry = true ↔ a.toNat + v.toNat + c.toNat > 0xFF :=
  decide_eq_true_iff

theorem addBinary_overflow_iff :
    let r := BitVec.ofNat 8 (a.toNat + v.toNat + c.toNat)
    (addBinary a v c).overflow = true ↔ (a ^^^ r) &&& (v ^^^ r) &&& 0x80#8 ≠ 0x00#8 := bne_iff_ne

theorem not_toNat : ((~~~v).toNat : Int) = 255 - v.toNat := by
  rw [BitVec.toNat_not]
  omega

theorem not_toInt : (~~~v).toInt = -v.toInt - 1 := by
  rw [BitVec.toInt_eq_toNat_cond, BitVec.toInt_eq_toNat_cond, BitVec.toNat_not]
  split <;> split <;> omega

/-- Adding the complement subtracts, modulo 256 (R861). -/
theorem addBinary_not_value :
    (addBinary a (~~~v) c).value = BitVec.ofInt 8 (a.toNat - v.toNat - (1 - c.toNat : Int)) := by
  have hnot := not_toNat v
  apply BitVec.eq_of_toNat_eq
  rw [BitVec.toNat_ofInt, addBinary, BitVec.toNat_ofNat]
  omega

/-- The carry of a subtraction says that it did not borrow (R861). -/
theorem addBinary_not_carry_iff :
    (addBinary a (~~~v) c).carry = true ↔ (a.toNat : Int) - v.toNat - (1 - c.toNat : Int) ≥ 0 := by
  have hnot := not_toNat v
  rw [addBinary_carry_iff]
  omega

/-- The overflow of an addition says that the signed sum left -128..127 (R860). -/
theorem addBinary_overflow_iff_signed : (addBinary a v c).overflow = true ↔
    a.toInt + v.toInt + c.toNat < -128 ∨ a.toInt + v.toInt + c.toNat > 127 :=
  (addBinary_overflow_iff a v c).trans (signRule_iff_signed a v c)

/-- The overflow of a subtraction says that the signed difference left -128..127 (R861). -/
theorem addBinary_not_overflow_iff_signed : (addBinary a (~~~v) c).overflow = true ↔
    a.toInt - v.toInt - (1 - c.toNat : Int) < -128 ∨ a.toInt - v.toInt - (1 - c.toNat : Int) > 127 := by
  rw [addBinary_overflow_iff_signed, not_toInt]
  omega

end

/-! The result by the decimal flag: binary, or under `DECIMAL_MODEL = c02` decimal. -/

theorem adcOut_binary (model : DecimalModel) (a v : Byte) (c : Bool) : adcOut model false a v c = addBinary a v c := rfl

theorem adcOut_c02 (a v : Byte) (c : Bool) : adcOut .c02 true a v c = addDecimal a v c := rfl

theorem sbcOut_binary (model : DecimalModel) (a v : Byte) (c : Bool) :
    sbcOut model false a v c = addBinary a (~~~v) c := rfl

theorem sbcOut_c02 (a v : Byte) (c : Bool) : sbcOut .c02 true a v c = subDecimal a v c := rfl

/-- Settles O49: each form adds its operand; the sign rule is the signed range. -/
theorem adcResult : Obligations.AdcResult := by
  intro v b w s f hf
  obtain ⟨hop, hexec⟩ := adcForms_exec s v b w f hf
  obtain ⟨t, hrun, ha, hc, hv, hnz, hread, hframe⟩ := setAlu_result (hexec.trans (adc_eq s f.operand))
  refine ⟨hop, t, hrun, hnz, hread, hframe, fun hd => ?_, fun hd hmodel => ?_⟩
  · rw [hd, adcOut_binary] at ha hc hv
    rw [ha, hc, hv]
    exact ⟨rfl, addBinary_carry_iff .., addBinary_overflow_iff .., addBinary_overflow_iff_signed ..⟩
  · rw [hd, hmodel, adcOut_c02] at ha hc hv
    rw [ha, hc, hv]
    exact ⟨rfl, decide_eq_true_iff, decide_eq_true_iff⟩

/-- Settles O50: each form adds the complement of its operand, which is subtracting it. -/
theorem sbcResult : Obligations.SbcResult := by
  intro v b w s f hf
  obtain ⟨hop, hexec⟩ := sbcForms_exec s v b w f hf
  obtain ⟨t, hrun, ha, hc, hv, hnz, hread, hframe⟩ := setAlu_result (hexec.trans (sbc_eq s f.operand))
  refine ⟨hop, t, hrun, hnz, hread, hframe, fun hd => ?_, fun hd hmodel => ?_⟩
  · rw [hd, sbcOut_binary] at ha hc hv
    rw [ha, hc, hv]
    exact ⟨rfl, addBinary_not_value .., addBinary_carry_iff .., addBinary_not_carry_iff .., addBinary_overflow_iff ..,
      addBinary_not_overflow_iff_signed ..⟩
  · rw [hd, hmodel, sbcOut_c02] at ha hc hv
    rw [ha, hc, hv]
    exact ⟨rfl, addBinary_carry_iff .., addBinary_overflow_iff ..⟩

/-! Packed BCD (R862, R863, R870). -/

theorem and_0x0F_toNat (v : Byte) : (v &&& 0x0F#8).toNat = v.toNat % 16 :=
  Nat.and_two_pow_sub_one_eq_mod v.toNat 4

/-- The high digit is what the low digit leaves of the byte. -/
theorem and_0xF0_toNat (v : Byte) : (v &&& 0xF0#8).toNat = v.toNat / 16 * 16 := by
  have hdisjoint : (v &&& 0xF0#8) &&& (v &&& 0x0F#8) = 0#8 := by
    rw [BitVec.and_assoc, BitVec.and_comm v 0x0F#8, ← BitVec.and_assoc 0xF0#8]
    simp
  have hsplit : (v &&& 0xF0#8) + (v &&& 0x0F#8) = v := by
    rw [BitVec.add_eq_or_of_and_eq_zero _ _ hdisjoint]
    exact BitVec.and_or_distrib_left.symm.trans BitVec.and_allOnes
  have hle : (v &&& 0xF0#8).toNat ≤ v.toNat := Nat.and_le_left
  have hsum := congrArg BitVec.toNat hsplit
  rw [BitVec.toNat_add, and_0x0F_toNat] at hsum
  omega

/-- A number below 100 by its two decimal digits. -/
theorem exists_digits {n : Nat} (h : n < 100) : ∃ p q, p < 10 ∧ q < 10 ∧ n = 10 * p + q :=
  ⟨n / 10, n % 10, by omega, by omega, by omega⟩

section
variable {p q : Nat} (hp : p < 10) (hq : q < 10)
include hp hq

theorem bcd_toNat : (bcd (10 * p + q)).toNat = 16 * p + q := by
  rw [bcd, BitVec.toNat_ofNat]
  omega

theorem bcd_low : (bcd (10 * p + q) &&& 0x0F#8).toNat = q := by
  rw [and_0x0F_toNat, bcd_toNat hp hq]
  omega

theorem bcd_high : (bcd (10 * p + q) &&& 0xF0#8).toNat = 16 * p := by
  rw [and_0xF0_toNat, bcd_toNat hp hq]
  omega

variable {p' q' : Nat} (hp' : p' < 10) (hq' : q' < 10) (c : Bool)

omit hp hq in
/-- The digits of a sum: the units carry into the tens. -/
theorem add_digits : (10 * p + q + (10 * p' + q') + c.toNat) % 100 =
    10 * ((p + p' + (q + q' + c.toNat) / 10) % 10) + (q + q' + c.toNat) % 10 := by
  omega

include hp' hq'

/-- The digits of a difference, as those of the sum with the nines' complement. -/
theorem sub_digits : (10 * p + q + 99 + c.toNat - (10 * p' + q')) % 100 =
    10 * ((p + (9 - p') + (q + (9 - q') + c.toNat) / 10) % 10) + (q + (9 - q') + c.toNat) % 10 := by
  omega

/-- 6 is added to a digit that passed 9: to the low one first, then to the high one (R862). -/
theorem addDecimal_bcd_value : (addDecimal (bcd (10 * p + q)) (bcd (10 * p' + q')) c).value =
    bcd ((10 * p + q + (10 * p' + q') + c.toNat) % 100) := by
  have hc := Bool.toNat_le c
  apply BitVec.eq_of_toNat_eq
  rw [add_digits, bcd_toNat (Nat.mod_lt _ (by decide)) (Nat.mod_lt _ (by decide))]
  simp only [addDecimal, decimalLow, BitVec.toNat_ofNat, bcd_low hp hq, bcd_low hp' hq', bcd_high hp hq,
    bcd_high hp' hq']
  split <;> split <;> omega

theorem addDecimal_bcd_carry_iff : (addDecimal (bcd (10 * p + q)) (bcd (10 * p' + q')) c).carry = true ↔
    10 * p + q + (10 * p' + q') + c.toNat ≥ 100 := by
  have hc := Bool.toNat_le c
  simp only [addDecimal, decimalLow, bcd_low hp hq, bcd_low hp' hq', bcd_high hp hq, bcd_high hp' hq',
    decide_eq_true_iff]
  split <;> split <;> omega

/-- 6 is taken from a digit that borrowed: from the high one first, then from the low one (R863). -/
theorem subDecimal_bcd_value : (subDecimal (bcd (10 * p + q)) (bcd (10 * p' + q')) c).value =
    bcd ((10 * p + q + 99 + c.toNat - (10 * p' + q')) % 100) := by
  have hc := Bool.toNat_le c
  apply BitVec.eq_of_toNat_eq
  rw [sub_digits hp hq hp' hq', bcd_toNat (Nat.mod_lt _ (by decide)) (Nat.mod_lt _ (by decide))]
  simp only [subDecimal, BitVec.toNat_ofInt, bcd_low hp hq, bcd_low hp' hq', bcd_toNat hp hq, bcd_toNat hp' hq']
  split <;> split <;> omega

theorem subDecimal_bcd_carry_iff : (subDecimal (bcd (10 * p + q)) (bcd (10 * p' + q')) c).carry = true ↔
    10 * p + q + c.toNat ≥ 10 * p' + q' + 1 := by
  have hc := Bool.toNat_le c
  rw [subDecimal, subBinary, addBinary_not_carry_iff, bcd_toNat hp hq, bcd_toNat hp' hq']
  omega

end

/-- Settles O51: decimal addition and subtraction of packed digits, digit by digit. -/
theorem decimalArithmeticIsDecimal : Obligations.DecimalArithmeticIsDecimal := by
  intro v b w s x y hd hmodel hx hy hacc
  obtain ⟨p, q, hp, hq, rfl⟩ := exists_digits hx
  obtain ⟨p', q', hp', hq', rfl⟩ := exists_digits hy
  refine ⟨fun f hf hoperand => ?_, fun f hf hoperand => ?_⟩
  · obtain ⟨-, hexec⟩ := adcForms_exec s v b w f hf
    obtain ⟨t, hrun, ha, hc, -⟩ := setAlu_result (hexec.trans (adc_eq s f.operand))
    rw [hd, hmodel, adcOut_c02, hacc, hoperand] at ha hc
    exact ⟨t, hrun, ha.trans (addDecimal_bcd_value hp hq hp' hq' _), hc ▸ addDecimal_bcd_carry_iff hp hq hp' hq' _⟩
  · obtain ⟨-, hexec⟩ := sbcForms_exec s v b w f hf
    obtain ⟨t, hrun, ha, hc, -⟩ := setAlu_result (hexec.trans (sbc_eq s f.operand))
    rw [hd, hmodel, sbcOut_c02, hacc, hoperand] at ha hc
    exact ⟨t, hrun, ha.trans (subDecimal_bcd_value hp hq hp' hq' _), hc ▸ subDecimal_bcd_carry_iff hp hq hp' hq' _⟩

end Sys2Proof.Machine
end

section
/-! PROOFS. Branches, jumps and calls (47_control_transfer.md). -/

namespace Sys2Proof.Machine

/-! A write of PC leaves the outcome, the port's record, registers, flags and memory alone (R108). -/

section
variable {s t : State}

theorem Completed.setPc (h : Completed s t) (w : Word) : Completed s (t.setPc w) := h

theorem PortAfter.setPc {ops : List PortOp} (h : PortAfter s t ops) (w : Word) : PortAfter s (t.setPc w) ops := h

theorem Frame.setPc {regs : List Reg} {flags : List Flag} {stored : List Word} (h : Frame s t regs flags stored)
    (w : Word) : Frame s (t.setPc w) regs flags stored := { h with }

theorem PushedWord.setPc {u : State} {w : Word} (h : PushedWord s u t w) (target : Word) :
    PushedWord s u (t.setPc target) w := by
  obtain ⟨hcompleted, hsp, hhigh, hlow, hframe, hport⟩ := h
  exact ⟨hcompleted, hsp, hhigh, hlow, hframe.setPc target, hport⟩

end

theorem completed_refl (s : State) : Completed s s := ⟨rfl, rfl, rfl⟩

theorem portAfter_refl (s : State) : PortAfter s s [] := ⟨(List.append_nil _).symm, rfl⟩

/-! The relative branches (R750 to R759). -/

/-- A branch writes PC alone, and consumes its displacement whether or not it is taken. -/
theorem branch_eq_setPc (s : State) (d : Displacement) (taken : Bool) :
    branch d taken s = .next (s.setPc (if taken then (s.relTarget d).1 else (s.relTarget d).2.pc)) := by
  rw [branch_eq]
  cases d <;> cases taken <;> rfl

/-- Settles O37: each form is a branch on its flag. -/
theorem branchResult : Obligations.BranchResult := by
  intro d w s f hf
  obtain ⟨hop, hexec⟩ := branchForms_exec s d w f hf
  exact ⟨hop, _, hexec.trans (branch_eq_setPc s _ _), completed_refl s, portAfter_refl s, (Frame.refl s).setPc _, rfl⟩

/-! BBRn, BBSn (R760, R770). -/

/-- The n-th variant has opcode 0x0F + 0x10 n (R761 to R768). -/
theorem bbrForms_opcode (b d : Byte) : ∀ f ∈ bbrForms b d, f.opcode = BitVec.ofNat 8 (0x0F + 0x10 * f.operand) := by
  simp [bbrForms]

/-- The n-th variant has opcode 0x8F + 0x10 n (R771 to R778). -/
theorem bbsForms_opcode (b d : Byte) : ∀ f ∈ bbsForms b d, f.opcode = BitVec.ofNat 8 (0x8F + 0x10 * f.operand) := by
  simp [bbsForms]

/-- A branch on a bit reads the byte and writes PC. -/
theorem branchOnBit_eq_setPc (s : State) (bit : Bool) (n : Nat) (b d : Byte) :
    branchOnBit bit n b d s = .next ((s.afterRead (zext b)).setPc
      (if (s.portByte (zext b)).getLsbD n = bit then s.pc + 2#16 + sext d else s.pc + 2#16)) := by
  rw [branchOnBit_eq]
  split
  · rfl
  · rfl

/-- A short displacement is added as a signed number, modulo 2^16 (R426). -/
theorem toNat_add_sext (w : Word) (d : Byte) : ((w + sext d).toNat : Int) = (w.toNat + d.toInt) % 65536 := by
  rw [toNat_add_toInt, sext, BitVec.toInt_signExtend_of_le (by decide)]

theorem branchOnBit_result (s : State) (bit : Bool) (n : Nat) (b d : Byte) :
    let m := s.portByte (zext b)
    ∃ t, branchOnBit bit n b d s = .next t ∧ Completed s t ∧ PortAfter (s.afterRead (zext b)) t [] ∧
      Frame s t [] [] [] ∧
      (m.getLsbD n = bit → (t.pc.toNat : Int) = ((s.pc + 2#16).toNat + d.toInt) % 65536) ∧
      (m.getLsbD n ≠ bit → t.pc = s.pc + 2#16) := by
  intro m
  refine ⟨_, branchOnBit_eq_setPc s bit n b d, completed_refl s, portAfter_refl (s.afterRead (zext b)),
    ((Frame.refl s).afterRead _).setPc _, fun htaken => ?_, fun hnot => ?_⟩
  · rw [State.setPc_pc, if_pos htaken, toNat_add_sext]
  · rw [State.setPc_pc, if_neg hnot]

/-- Settles O38: each variant is a branch on its bit. -/
theorem bitBranchResult : Obligations.BitBranchResult := by
  intro b d s g hg f hf
  simp only [List.mem_cons, List.not_mem_nil, or_false] at hg
  rcases hg with rfl | rfl
  · obtain ⟨hop, hexec⟩ := bbrForms_exec s b d f hf
    exact ⟨hop, bbrForms_opcode b d f hf, hexec ▸ branchOnBit_result s false f.operand b d⟩
  · obtain ⟨hop, hexec⟩ := bbsForms_exec s b d f hf
    exact ⟨hop, bbsForms_opcode b d f hf, hexec ▸ branchOnBit_result s true f.operand b d⟩

/-! JMP (R780), JSR and BSR (R781, R782). -/

/-- Settles O39: the effective address goes to PC. -/
theorem jumpResult : Obligations.JumpResult := by
  intro w s f hf
  obtain ⟨hop, hexec⟩ := jmpForms_exec s w f hf
  exact ⟨hop, _, hexec.trans (jmp_eq s f.operand), rfl, (completed_ea s f.operand).setPc _, portAfter_refl _,
    (Frame.ea s f.operand).setPc _⟩

theorem call_of_push16_error {s t : State} {target : Word} (h : s.push16 (s.pc - 1#16) = .error t) :
    call target s = .next t := by rw [call, h]

/-- Reading the target of a call moves PC past the operand bytes and makes port reads, nothing else (R781, R782). -/
theorem callForms_read {w : Word} {f : Form (State → Word × State)} (hf : f ∈ callForms w) (s : State) :
    Completed s (f.operand s).2 ∧ Frame s (f.operand s).2 [] [] [] ∧ (f.operand s).2.pc = s.pc + 2#16 := by
  obtain ⟨target, draws, ops, hread⟩ := callForms_operand hf s
  rw [hread]
  exact ⟨⟨rfl, rfl, rfl⟩, { Frame.refl s with }, rfl⟩

/-- Settles O40: the target is read, then the address of the last byte is pushed; the jump is last. -/
theorem callResult : Obligations.CallResult := by
  intro w s f hf
  obtain ⟨hop, hexec⟩ := callForms_exec s w f hf
  obtain ⟨hcompleted, hframe, hpc⟩ := callForms_read hf s
  have hlast : (f.operand s).2.pc - 1#16 = s.pc + 1#16 := by
    rw [hpc]
    exact add_sub_assoc s.pc 2#16 1#16
  refine ⟨hop, fun hroom => ?_, fun hroom => ?_⟩
  · obtain ⟨t, hpush, -, hpushed⟩ := push16_pushedWord hcompleted hframe hroom (s.pc + 1#16)
    rw [← hlast] at hpush
    exact ⟨_, hexec.trans (call_of_push16 hpush), rfl, hpushed.setPc _⟩
  · obtain ⟨t, hpush, hover⟩ := push16_overflowed hcompleted hframe hroom (s.pc + 1#16)
    have ⟨_, htpc, _⟩ := hover
    rw [← hlast] at hpush
    exact ⟨t, hexec.trans (call_of_push16_error hpush), htpc.trans hpc, hover⟩

end Sys2Proof.Machine
end

section
/-! PROOFS. Returns (R783 to R785): pulls counted from the state the instruction began in, and where they stop. -/

namespace Sys2Proof.Machine

/-- The state `t` is `s` after `n` pulls, with PC and the flags listed free: SP is `n` up, the port has made those
reads, nothing else has changed (R431). -/
structure Pulling (flags : List Flag) (n : Nat) (s t : State) : Prop where
  sp : t.sp = s.sp + BitVec.ofNat 8 n
  completed : Completed s t
  port : PortAfter (s.afterPulls n) t []
  frame : Frame s t [.sp] flags []

/-- The state `t` is `s` after the pulls that were possible, stopped by the underflow of the next (R431, R432). -/
structure Underflowed (flags : List Flag) (s t : State) : Prop where
  raised : Raised s t .underflow
  sp : t.sp = 0xFF#8
  frame : Frame s t [.sp] flags []
  port : PortAfter (s.afterPulls (0xFF - s.sp.toNat)) t []

/-- The state after a pull that meets no limit: SP one up, the byte there read (R431). -/
def State.afterPull (t : State) : State := (t.setSp (t.sp + 1#8)).afterRead (stackAddr (t.sp + 1#8))

theorem State.afterPulls_mem_io (s : State) (n : Nat) :
    (s.afterPulls n).mem = s.mem ∧ (s.afterPulls n).io = s.io := by
  induction n with
  | zero => exact ⟨rfl, rfl⟩
  | succ n ih => exact ih

theorem State.canPull_zero (s : State) : s.canPull 0 := fun _ => by omega

namespace Pulling

variable {flags : List Flag} {n : Nat} {s t : State}

theorem refl (s : State) : Pulling flags 0 s s where
  sp := (BitVec.add_zero s.sp).symm
  completed := completed_refl s
  port := portAfter_refl s
  frame := Frame.refl s

theorem setPc (h : Pulling flags n s t) (w : Word) : Pulling flags n s (t.setPc w) :=
  { h with frame := h.frame.setPc w }

theorem setP (h : Pulling allFlags n s t) (v : Byte) : Pulling allFlags n s (t.setP v) :=
  { h with frame := h.frame.setP v }

variable (h : Pulling flags n s t)
include h

/-- The port answers as after the reads of the `n` pulls: memory and the I/O map are those of `s`. -/
theorem answers (a : Word) :
    t.isIo a = (s.afterPulls n).isIo a ∧ t.portByte a = (s.afterPulls n).portByte a := by
  obtain ⟨hmem, hio⟩ := s.afterPulls_mem_io n
  have hmap : t.isIo a = (s.afterPulls n).isIo a := by rw [State.isIo, State.isIo, h.frame.io, hio]
  have hread : t.mem.read a.toNat = (s.afterPulls n).mem.read a.toNat := by
    rw [hmem, h.frame.memory a List.not_mem_nil]
  exact ⟨hmap, by rw [State.portByte, State.portByte, hmap, hread, h.port.2]⟩

theorem sp_succ : t.sp + 1#8 = s.sp + BitVec.ofNat 8 (n + 1) := by
  rw [h.sp, BitVec.add_assoc, BitVec.ofNat_add]

theorem afterPull : Pulling flags (n + 1) s t.afterPull where
  sp := h.sp_succ
  completed := h.completed
  port := by
    obtain ⟨hops, hdraws⟩ := h.port
    obtain ⟨hmap, hbyte⟩ := h.answers (stackAddr (s.sp + BitVec.ofNat 8 (n + 1)))
    rw [State.afterPull, h.sp_succ]
    constructor
    · simp [State.afterPulls, hops, hbyte]
    · simp [State.afterPulls, hdraws, hmap]
  frame := (h.frame.setSp List.mem_cons_self _).afterRead _

/-- With a byte left to pull the next pull answers it (R431). -/
theorem pull (hroom : s.canPull (n + 1)) : t.pull = .ok (s.pulled n, t.afterPull) := by
  have hlimit : ¬(t.sp = 0xFF#8 ∧ t.cfg.stackLimit = .fault) := by
    rintro ⟨hsp, hfault⟩
    have hle := hroom (h.frame.cfg ▸ hfault)
    rw [h.sp] at hsp
    bv_omega
  have hbyte : t.portByte (stackAddr (t.sp + 1#8)) = s.pulled n := by
    rw [h.sp_succ, (h.answers _).2, State.pulled]
  rw [State.pull_ok hlimit, hbyte, State.afterPull]

/-- With two bytes left a 16-bit pull answers them, low byte first (R431). -/
theorem pull16 (hroom : s.canPull (n + 2)) : t.pull16 = .ok (s.pulledWord n, t.afterPull.afterPull) := by
  have hone : s.canPull (n + 1) := fun hfault => Nat.le_of_succ_le (hroom hfault)
  rw [State.pull16, h.pull hone]
  simp only [h.afterPull.pull hroom]
  rfl

/-- The underflow raised after `n` pulls, when those took SP to 0xFF. -/
theorem underflowed (hsp : s.sp.toNat + n = 0xFF) : Underflowed flags s (t.raiseStackFault .underflow) where
  raised := by
    obtain ⟨-, -, hdiag⟩ := h.completed
    exact ⟨rfl, rfl, hdiag⟩
  sp := h.sp.trans (by bv_omega)
  frame := h.frame.raiseStackFault _
  port := by
    have hn : 0xFF - s.sp.toNat = n := by omega
    exact hn ▸ h.port

/-- With no byte left the next pull raises the underflow (R431, R432). -/
theorem pull_error (hroom : s.canPull n) (hstop : ¬s.canPull (n + 1)) :
    t.pull = .error (t.raiseStackFault .underflow) ∧ Underflowed flags s (t.raiseStackFault .underflow) := by
  obtain ⟨hfault, hpast⟩ := Classical.not_imp.mp hstop
  have hle := hroom hfault
  have hsp : t.sp = 0xFF#8 := h.sp.trans (by bv_omega)
  exact ⟨State.pull_underflow ⟨hsp, h.frame.cfg ▸ hfault⟩, h.underflowed (by omega)⟩

/-- With fewer than two bytes left a 16-bit pull stops at its first byte or at its second. -/
theorem pull16_error (hroom : s.canPull n) (hstop : ¬s.canPull (n + 2)) :
    ∃ u, t.pull16 = .error u ∧ Underflowed flags s u ∧ u.pc = t.pc ∧ u.p = t.p := by
  by_cases hone : s.canPull (n + 1)
  · obtain ⟨hpull, hunder⟩ := h.afterPull.pull_error hone hstop
    refine ⟨_, ?_, hunder, rfl, rfl⟩
    rw [State.pull16, h.pull hone]
    simp only [hpull]
  · obtain ⟨hpull, hunder⟩ := h.pull_error hroom hone
    exact ⟨_, by rw [State.pull16, hpull], hunder, rfl, rfl⟩

end Pulling

/-! RTS (R783). -/

section
variable {s t : State} {w : Word}

theorem rts_of_pull16_error (h : s.pull16 = .error t) : rts s = .next t := by rw [rts, h]

/-- At SP = 0xFF no pull was possible, at SP = 0xFE one was. -/
theorem Underflowed.port_cases {flags : List Flag} (h : Underflowed flags s t) :
    (s.sp = 0xFF#8 → PortAfter s t []) ∧ (s.sp = 0xFE#8 → PortAfter (s.afterPulls 1) t []) := by
  have hport := h.port
  constructor <;> intro hsp <;> rw [hsp] at hport <;> exact hport

end

/-- Settles O41: two bytes pulled, or stopped at the limit. -/
theorem returnResult : Obligations.ReturnResult := by
  intro s
  have hstart : Pulling [] 0 s s := Pulling.refl s
  refine ⟨rfl, fun hroom => ?_, fun hroom => ?_⟩
  · have hend := hstart.afterPull.afterPull
    exact ⟨_, rts_of_pull16 (hstart.pull16 hroom), rfl, hend.sp, hend.completed, hend.port, hend.frame.setPc _⟩
  · obtain ⟨t, hpull, hunder, hpc, -⟩ := hstart.pull16_error s.canPull_zero hroom
    exact ⟨t, rts_of_pull16_error hpull, hunder.raised, hpc, hunder.sp, hunder.frame, hunder.port_cases⟩

/-! RTN (R784). -/

section
variable {s t : State} {n : Byte} {w : Word}

theorem rtn_of_pull16_error (h : (s.advance 1).pull16 = .error t) : rtn n s = .next t := by rw [rtn, h]

/-- PC is set, then SP is adjusted. -/
theorem rtn_of_release (h : (s.advance 1).pull16 = .ok (w, t))
    (hroom : ¬(t.sp.toNat + n.toNat > 0xFF ∧ t.cfg.stackLimit = .fault)) :
    rtn n s = .next ((t.setPc (w + 1#16)).setSp (t.sp + n)) := by
  rw [rtn, h]
  exact if_neg hroom

/-- PC is set before the release underflows. -/
theorem rtn_of_release_underflow (h : (s.advance 1).pull16 = .ok (w, t))
    (hpast : t.sp.toNat + n.toNat > 0xFF ∧ t.cfg.stackLimit = .fault) :
    rtn n s = .next ((t.setPc (w + 1#16)).raiseStackFault .underflow) := by
  rw [rtn, h]
  exact if_pos hpast

end

/-- Settles O42: two bytes pulled, then `n` released; each of the two can meet the limit. -/
theorem returnAndReleaseResult : Obligations.ReturnAndReleaseResult := by
  intro n s
  have hstart : Pulling [] 0 s (s.advance 1) := (Pulling.refl s).setPc _
  have hend := hstart.afterPull.afterPull
  have hcfg := hend.frame.cfg
  have hsp := hend.sp
  refine ⟨rfl, fun hroom => ?_, fun hroom hpast => ?_, fun hroom => ?_⟩
  · have htwo : s.canPull 2 := fun hfault => by have := hroom hfault; omega
    refine ⟨_, rtn_of_release (hstart.pull16 htwo) ?_, rfl, by rw [State.setSp_sp, hsp], hend.completed, hend.port,
      (hend.frame.setPc _).setSp List.mem_cons_self _⟩
    rintro ⟨hover, hfault⟩
    have hle := hroom (hcfg ▸ hfault)
    rw [hsp] at hover
    bv_omega
  · obtain ⟨hfault, hover⟩ := Classical.not_imp.mp hpast
    have hle := hroom hfault
    obtain ⟨-, -, hdiag⟩ := hend.completed
    refine ⟨_, rtn_of_release_underflow (hstart.pull16 hroom) ⟨?_, hcfg ▸ hfault⟩, ⟨rfl, rfl, hdiag⟩, rfl, hsp,
      hend.port, (hend.frame.setPc _).raiseStackFault _⟩
    rw [hsp]
    bv_omega
  · obtain ⟨t, hpull, hunder, hpc, -⟩ := hstart.pull16_error s.canPull_zero hroom
    exact ⟨t, rtn_of_pull16_error hpull, hunder.raised, hpc, hunder.sp, hunder.frame, hunder.port_cases⟩

/-! RTI (R785). -/

section
variable {s t u : State} {v : Byte} {w : Word}

theorem rti_of_pull_error (h : s.pull = .error t) : rti s = .next t := by rw [rti, h]

theorem rti_of_pull16_error (h : s.pull = .ok (v, t)) (hword : (t.setP v).pull16 = .error u) : rti s = .next u := by
  rw [rti, h]
  simp only [hword]

theorem rti_of_pull16 (h : s.pull = .ok (v, t)) (hword : (t.setP v).pull16 = .ok (w, u)) :
    rti s = .next (u.setPc w) := by
  rw [rti, h]
  simp only [hword]

end

/-- Settles O43: P pulled, then PC; the pulls before the one that stops keep their effect. -/
theorem returnFromInterruptResult : Obligations.ReturnFromInterruptResult := by
  intro s
  have hstart : Pulling allFlags 0 s s := Pulling.refl s
  have hloaded : Pulling allFlags 1 s (s.afterPull.setP (s.pulled 0)) := hstart.afterPull.setP _
  refine ⟨rfl, fun hroom => ?_, fun hroom => ?_⟩
  · have hone : s.canPull 1 := fun hfault => by have := hroom hfault; omega
    have hend := hloaded.afterPull.afterPull
    exact ⟨_, rti_of_pull16 (hstart.pull hone) (hloaded.pull16 hroom), rfl, rfl, hend.sp, hend.completed, hend.port,
      hend.frame.setPc _⟩
  · by_cases hone : s.canPull 1
    · obtain ⟨t, hpull, hunder, hpc, hp⟩ := hloaded.pull16_error hone hroom
      have hsp : s.sp ≠ 0xFF#8 := by
        obtain ⟨hfault, -⟩ := Classical.not_imp.mp hroom
        have hle := hone hfault
        bv_omega
      exact ⟨t, rti_of_pull16_error (hstart.pull hone) hpull, hunder.raised, hpc, hunder.sp, hunder.frame, hunder.port,
        hp.trans (if_neg hsp).symm⟩
    · obtain ⟨hpull, hunder⟩ := hstart.pull_error s.canPull_zero hone
      have hsp : s.sp = 0xFF#8 := hunder.sp
      exact ⟨_, rti_of_pull_error hpull, hunder.raised, rfl, hunder.sp, hunder.frame, hunder.port, (if_pos hsp).symm⟩

end Sys2Proof.Machine
end
